-- ==== Sys2Proof/Word.lean ====
section
/-! DEFINITION. The value types of the block (00_scope.md R13): the 32-bit word, the command word, and the level
of a line. -/

namespace Sys2Proof

/-- `u32` and `i32`: one 32-bit vector, read unsigned or in two's complement by the operation that uses it (R13). -/
abbrev Word := BitVec 32

/-- `u8`: the smoothing factor and the two read counters (R13, D8). -/
abbrev Byte := BitVec 8

/-- `u40`: the command word `cmd_i` (R54). -/
abbrev CommandWord := BitVec 40

/-- `u1` on a line: low = 0, high = 1 (R13). -/
inductive Level where
  | low
  | high
deriving DecidableEq, Repr, Inhabited

end Sys2Proof
end

