-- ==== Sys2Proof/Syntax.lean ====
section
/-! DEFINITION. The 24 commands (30_encoding.md R58), one constructor for each row of spec/opcode_table.json. -/

namespace Sys2Proof

/-- A command with its operand. A command without operand carries none: its `arg` field is ignored entirely (R57, D32).
The operand is the whole 32-bit `arg`; which bits a command uses is its meaning's affair (R57). -/
inductive Instr where
  /-- 0x01 POLL (R72) -/
  | poll
  /-- 0x02 GETSTATUS (R90) -/
  | getStatus
  /-- 0x04 SETGAIN (R91) -/
  | setGain (arg : Word)
  /-- 0x05 GETGAIN (R92) -/
  | getGain
  /-- 0x06 PWRDN (R93) -/
  | pwrDn
  /-- 0x07 PWRUP (R94) -/
  | pwrUp
  /-- 0x08 SETREQ (R95) -/
  | setReq (arg : Word)
  /-- 0x09 GETREQ (R96) -/
  | getReq
  /-- 0x0A SETSMF (R103) -/
  | setSmf (arg : Word)
  /-- 0x0B GETSMF (R104) -/
  | getSmf
  /-- 0x10 GETRAW (R105) -/
  | getRaw
  /-- 0x11 GETSMOOTHED (R106) -/
  | getSmoothed
  /-- 0x12 TARE.R (R107) -/
  | tareR
  /-- 0x13 TARE.S (R108) -/
  | tareS
  /-- 0x14 SETTARE (R109) -/
  | setTare (arg : Word)
  /-- 0x15 GETTARE (R110) -/
  | getTare
  /-- 0x16 GETMT.R (R111) -/
  | getMtR
  /-- 0x17 GETMT.S (R112) -/
  | getMtS
  /-- 0x18 ADJ.R (R113) -/
  | adjR (arg : Word)
  /-- 0x19 ADJ.S (R114) -/
  | adjS (arg : Word)
  /-- 0x1A SETSCALE (R115) -/
  | setScale (arg : Word)
  /-- 0x1B GETSCALE (R116) -/
  | getScale
  /-- 0x1C GETADJ.R (R117) -/
  | getAdjR
  /-- 0x1D GETADJ.S (R118) -/
  | getAdjS
deriving DecidableEq, Repr

/-- The mnemonic of a listing (R61). -/
def Instr.mnemonic : Instr → String
  | .poll => "POLL"
  | .getStatus => "GETSTATUS"
  | .setGain _ => "SETGAIN"
  | .getGain => "GETGAIN"
  | .pwrDn => "PWRDN"
  | .pwrUp => "PWRUP"
  | .setReq _ => "SETREQ"
  | .getReq => "GETREQ"
  | .setSmf _ => "SETSMF"
  | .getSmf => "GETSMF"
  | .getRaw => "GETRAW"
  | .getSmoothed => "GETSMOOTHED"
  | .tareR => "TARE.R"
  | .tareS => "TARE.S"
  | .setTare _ => "SETTARE"
  | .getTare => "GETTARE"
  | .getMtR => "GETMT.R"
  | .getMtS => "GETMT.S"
  | .adjR _ => "ADJ.R"
  | .adjS _ => "ADJ.S"
  | .setScale _ => "SETSCALE"
  | .getScale => "GETSCALE"
  | .getAdjR => "GETADJ.R"
  | .getAdjS => "GETADJ.S"

/-- The five gain modes (R27). -/
inductive GainName where
  /-- GAIN_128_RATE_10 -/
  | gain128Rate10
  /-- BATTERY_RATE_40 -/
  | batteryRate40
  /-- GAIN_128_RATE_40 -/
  | gain128Rate40
  /-- GAIN_256_RATE_10 -/
  | gain256Rate10
  /-- GAIN_256_RATE_40 -/
  | gain256Rate40
deriving DecidableEq, Repr

/-- All five, in the order of R27's table. -/
def GainName.all : List GainName :=
  [.gain128Rate10, .batteryRate40, .gain128Rate40, .gain256Rate10, .gain256Rate40]

/-- `EXTRA`: the pulses after the 24 data bits (R27, R11). -/
def GainName.extraPulses : GainName → Nat
  | .gain128Rate10 => 1
  | .batteryRate40 => 2
  | .gain128Rate40 => 3
  | .gain256Rate10 => 4
  | .gain256Rate40 => 5

/-- The 3-bit code: "The code equals the number of extra pulses" (R27, D6). -/
def GainName.code (g : GainName) : BitVec 3 := BitVec.ofNat 3 g.extraPulses

/-- What a gain name assembles to (R61). -/
def GainName.operand (g : GainName) : Word := BitVec.ofNat 32 g.extraPulses

end Sys2Proof
end

