-- ==== Sys2Proof/Decode.lean ====
section
/-! DEFINITION. Decoding and encoding of the 40-bit command word (30_encoding.md R54, R58, R59). -/

namespace Sys2Proof

/-- `op`, bits 39:32 of the command word (R54). -/
def opField (w : CommandWord) : BitVec 8 := w.extractLsb' 32 8

/-- `arg`, bits 31:0 of the command word (R54). -/
def argField (w : CommandWord) : Word := w.extractLsb' 0 32

/-- The opcode map of R58. Every other value is reserved (R59). -/
def decodeFields (op : BitVec 8) (arg : Word) : Option Instr :=
  match op with
  | 0x01#8 => some .poll
  | 0x02#8 => some .getStatus
  | 0x04#8 => some (.setGain arg)
  | 0x05#8 => some .getGain
  | 0x06#8 => some .pwrDn
  | 0x07#8 => some .pwrUp
  | 0x08#8 => some (.setReq arg)
  | 0x09#8 => some .getReq
  | 0x0A#8 => some (.setSmf arg)
  | 0x0B#8 => some .getSmf
  | 0x10#8 => some .getRaw
  | 0x11#8 => some .getSmoothed
  | 0x12#8 => some .tareR
  | 0x13#8 => some .tareS
  | 0x14#8 => some (.setTare arg)
  | 0x15#8 => some .getTare
  | 0x16#8 => some .getMtR
  | 0x17#8 => some .getMtS
  | 0x18#8 => some (.adjR arg)
  | 0x19#8 => some (.adjS arg)
  | 0x1A#8 => some (.setScale arg)
  | 0x1B#8 => some .getScale
  | 0x1C#8 => some .getAdjR
  | 0x1D#8 => some .getAdjS
  | _ => none

/-- The command a command word stands for; `none` for a reserved opcode (R59). -/
def decode (w : CommandWord) : Option Instr := decodeFields (opField w) (argField w)

/-- The opcode of a command (R58). -/
def opcode : Instr → BitVec 8
  | .poll => 0x01
  | .getStatus => 0x02
  | .setGain _ => 0x04
  | .getGain => 0x05
  | .pwrDn => 0x06
  | .pwrUp => 0x07
  | .setReq _ => 0x08
  | .getReq => 0x09
  | .setSmf _ => 0x0A
  | .getSmf => 0x0B
  | .getRaw => 0x10
  | .getSmoothed => 0x11
  | .tareR => 0x12
  | .tareS => 0x13
  | .setTare _ => 0x14
  | .getTare => 0x15
  | .getMtR => 0x16
  | .getMtS => 0x17
  | .adjR _ => 0x18
  | .adjS _ => 0x19
  | .setScale _ => 0x1A
  | .getScale => 0x1B
  | .getAdjR => 0x1C
  | .getAdjS => 0x1D

/-- The operand of a command; 0 for a command without one, which is its canonical encoding (R57, R61, D32). -/
def operandOf : Instr → Word
  | .setGain arg | .setReq arg | .setSmf arg | .setTare arg | .adjR arg | .adjS arg | .setScale arg => arg
  | .poll | .getStatus | .getGain | .pwrDn | .pwrUp | .getReq | .getSmf | .getRaw | .getSmoothed | .tareR | .tareS
  | .getTare | .getMtR | .getMtS | .getScale | .getAdjR | .getAdjS => 0

/-- Whether a command uses its operand field (R57). -/
def usesOperand : Instr → Bool
  | .setGain _ | .setReq _ | .setSmf _ | .setTare _ | .adjR _ | .adjS _ | .setScale _ => true
  | .poll | .getStatus | .getGain | .pwrDn | .pwrUp | .getReq | .getSmf | .getRaw | .getSmoothed | .tareR | .tareS
  | .getTare | .getMtR | .getMtS | .getScale | .getAdjR | .getAdjS => false

/-- The encoding of a listing line, `op ++ arg` (R54, R61). -/
def encode (i : Instr) : CommandWord := opcode i ++ operandOf i

/-- The command word of `nbits` bits whose value is `w`: one parallel value, bit 0 least significant (R12, R45, R54);
bits above `nbits` are 0. -/
def commandOfNat (nbits w : Nat) : CommandWord := BitVec.ofNat 40 (w % 2 ^ nbits)

/-- What the decoder reads from a word numbered as spec/opcode_table.json numbers it. There is one command length, 40
bits (R60). -/
def decodeTableWord (nbits w : Nat) : Option Instr :=
  if nbits ≤ 40 then decode (commandOfNat nbits w) else none

end Sys2Proof
end

