-- ==== Sys2Proof/Config.lean ====
section
/-! DEFINITION. What an implementation fixes (00_scope.md R11), and the values the spec leaves open. -/

namespace Sys2Proof

/-- `TIMEOUT_MS` (R11, R69, D30). -/
def Config.timeoutMs : Nat := 500

/-- `ADC_W`: data bits of one transfer (R11, R76). -/
def Config.dataBits : Nat := 24

/-- `REQ_INIT`: reset value of `requiredReadCount` (R11, R137); the spec's default (log 11). -/
def Config.reqInit : Byte := 3

/-- `GAIN_INIT`: reset value of `gainMode` (R11, R27, R137); the spec's default, `GAIN_128_RATE_10` (log 11). -/
def Config.gainInit : BitVec 3 := 1

/-- `SMF_INIT`: reset value of `smoothingFactor`, OPEN in the spec (R11, R31, D33, U8). No body: any `u8`, and no
proof can see which. DESIGN CHOICE (log 5), safe. -/
opaque Config.smfInit : Byte

/-- The level of the n-th sample of the data line, where the environment has lined up none (R17: "a free input
supplied by the environment"). DESIGN CHOICE (log 1), safe. -/
opaque Config.freeDout : Nat → Level

/-- The n-th sample of the millisecond clock, where the environment has lined up none (R19: "a free input of the
model"). DESIGN CHOICE (log 1), safe. -/
opaque Config.freeClock : Nat → Word

/-- The quotient of a division by 0, as a function of the dividend. R66 gives `sdiv32` no value there and never calls
it so; only states that no run reaches (`scaleFactor` = 0) get here. DESIGN CHOICE (log 6), safe. -/
opaque Config.quotientByZero : Word → Word

end Sys2Proof
end

