-- ==== Sys2Proof/Machine/Arith.lean ====
section
/-! DEFINITION. The integer arithmetic of the block (40_arithmetic.md R63 to R71): computed exactly on integers, then
narrowed. No function sets a flag or saturates (R71). -/

namespace Sys2Proof.Machine

/-- `sub32` (R63): wraps modulo 2^32. -/
def sub32 (a b : Word) : Word := BitVec.ofInt 32 (a.toInt - b.toInt)

/-- `add32` (R64): wraps modulo 2^32. -/
def add32 (a b : Word) : Word := BitVec.ofInt 32 (a.toInt + b.toInt)

/-- `mul32` (R65): low 32 bits of signed times unsigned. -/
def mul32 (a : Word) (f : Byte) : Word := BitVec.ofInt 32 (a.toInt * (f.toNat : Int))

/-- `sdiv32` (R66): truncates toward zero; `sdiv32 (-2^31) (-1)` wraps to -2^31 (D17). R66 gives no value for a zero
divisor: there the quotient is the free value `Config.quotientByZero` (log 6). -/
def sdiv32 (a b : Word) : Word :=
  if b = 0 then Config.quotientByZero a else BitVec.ofInt 32 (Int.tdiv a.toInt b.toInt)

/-- `usub32` (R68): modulo 2^32. -/
def usub32 (a b : Word) : Word := a - b

/-- The elapsed time of the busy check, an unsigned number (R68, R69). -/
def elapsedMs (now start : Word) : Nat := (usub32 now start).toNat

/-- The timeout test: unsigned and strict (R69). -/
def windowExpired (now start : Word) : Bool := Config.timeoutMs < elapsedMs now start

/-- "zero is coerced to 1": the guard on ADJ's divisor, on its quotient, and on SETSCALE's operand (R26, R113, R115). -/
def zeroToOne (v : Word) : Word := if v = 0 then 1 else v

/-- The ×256 scale of the stored samples (R11 `FRAC_W`). -/
def fracUnit : Word := 256

/-- A stored value divided by 256: a division, not a shift (R67). -/
def toCount (v : Word) : Word := sdiv32 v fracUnit

end Sys2Proof.Machine
end

