-- ==== Sys2Proof/Machine/State.lean ====
section
/-! DEFINITION. The state of the block (10_state.md R22), of its ports (00_scope.md R9), and its value after reset. -/

namespace Sys2Proof.Machine

/-- `status` (R28): the block's only flag register. Its codes are in Machine/Flags.lean. -/
inductive Status where
  | initializing
  | valid
  | poweredDown
  | timedOut
deriving DecidableEq, Repr

/-- `PHASE` of the sequencer (R37). -/
inductive Phase where
  | idle
  | high
  | low
deriving DecidableEq, Repr

/-- A response (R56): `ok`, `done`, `data`. Its 34 bits are packed in Machine/Operands.lean. -/
structure Response where
  ok   : Bool
  done : Bool
  data : Word
deriving DecidableEq, Repr

/-- An event of the output trace (R21). -/
inductive Event where
  /-- `SCK=l` (R16) -/
  | sck (l : Level)
  /-- `DOUT?=l` (R17) -/
  | dout (l : Level)
deriving DecidableEq, Repr

/-- What the world outside can put to the block's command and reset ports, one item at a time (R9, R10, R135; log 2). -/
inductive Input where
  /-- a command word on `cmd_i` (R10) -/
  | command (w : CommandWord)
  /-- `rst_i`, between two commands (R135) -/
  | reset
  /-- a POLL during which `rst_i` is asserted, `edges` clock edges into its transfer (R135, R150; log 8) -/
  | pollCutByReset (edges : Nat)
deriving DecidableEq, Repr

/-- Where the block stands between the command port and the response port (R10). It decides `cmd_ready_o` and
`rsp_valid_o` (Machine/Ops.lean; log 16). -/
inductive Handshake where
  /-- after reset: no response is pending (R135) -/
  | ready
  /-- a command is accepted and its response not yet produced: `cmd_ready_o` is 0 (R10, R85) -/
  | executing
  /-- the response of the latest command is present at `rsp_o` (R9, R10) -/
  | answered
deriving DecidableEq, Repr

/-- The complete state: the fifteen registers of R22, then what stands at the ports (the model's own fields; logs 1, 2,
13 and 16). There is no memory, no register file and no program counter (R22, R38, R40). -/
@[ext]
structure State where
  rawSample         : Word
  smoothedSample    : Word
  tareOffset        : Word
  scaleFactor       : Word
  gainMode          : BitVec 3
  status            : Status
  requiredReadCount : Byte
  smoothingFactor   : Byte
  pendingReadCount  : Byte
  cycleStartTime    : Word
  sck               : Level
  shreg             : BitVec 24
  pcnt              : BitVec 5
  phase             : Phase
  xtra              : BitVec 3
  inputs            : List Input
  handshake         : Handshake
  doutScript        : List Level
  clockScript       : List Word
  doutCount         : Nat
  clockCount        : Nat
  responses         : List Response
  trace             : List Event
deriving DecidableEq, Repr

/-- Why a step can stop the machine. No COMMAND faults: "The block raises no synchronous exception" (R119). -/
inductive Fault where
  /-- Raised by `step` alone, in a state with a transfer in progress whose `PCNT` is too high for its `PHASE`: none of
  R86 to R89 applies. No run reaches such a state (log 10). Safe. -/
  | sequencerStuck
deriving DecidableEq, Repr

/-- Why an instruction has no meaning. -/
inductive Refusal where
  /-- An instruction whose meaning is not written yet, by its mnemonic; raised by `exec`'s arms alone, and by none of
  them now. Safe. -/
  | notModelled (mnemonic : String)
deriving DecidableEq, Repr

/-- The block right after reset: the table of R136. The port fields hold nothing yet (DESIGN CHOICE, logs 1, 2, 13),
and no response is pending (R135). -/
def State.reset : State where
  rawSample         := 0
  smoothedSample    := 0
  tareOffset        := 0
  scaleFactor       := 1
  gainMode          := Config.gainInit
  status            := .initializing
  requiredReadCount := Config.reqInit
  smoothingFactor   := Config.smfInit
  pendingReadCount  := 0
  cycleStartTime    := 0
  sck               := .low
  shreg             := 0
  pcnt              := 0
  phase             := .idle
  xtra              := 0
  inputs            := []
  handshake         := .ready
  doutScript        := []
  clockScript       := []
  doutCount         := 0
  clockCount        := 0
  responses         := []
  trace             := []

end Sys2Proof.Machine
end

