-- ==== Sys2Proof/Machine/Operands.lean ====
section
/-! DEFINITION. Operand forms (30_encoding.md R55, R57), the widening of results (20_memory.md R44, R47) and the
packing of the response word (R56). -/

namespace Sys2Proof.Machine

/-- The selector `S` of R55. -/
inductive Selector where
  | raw
  | smoothed
deriving DecidableEq, Repr

/-- `sample(S)` (R55). -/
def sample (sel : Selector) (s : State) : Word :=
  match sel with
  | .raw => s.rawSample
  | .smoothed => s.smoothedSample

/-- `arg[7:0]`; `arg[31:8]` is ignored (R57, R95, R103). -/
def lowByte (arg : Word) : Byte := arg.extractLsb' 0 8

/-- SETGAIN's operand is legal: 1..5, all 32 bits as an unsigned number (R57, R91). -/
def gainLegal (arg : Word) : Bool := 1 ≤ arg.toNat && arg.toNat ≤ 5

/-- `arg[2:0]`, the gain code (R57, R91). -/
def gainCode (arg : Word) : BitVec 3 := arg.extractLsb' 0 3

/-- The bit of a level: low = 0, high = 1 (R13). -/
def levelBit : Level → BitVec 1
  | .low => 0
  | .high => 1

/-- `SHREG[22:0] ++ b` (R72 line 18, R76). -/
def shiftIn (r : BitVec 24) (l : Level) : BitVec 24 := r.extractLsb' 0 23 ++ levelBit l

/-- `SHREG ++ 0x00` (R44, R77). -/
def widenCount (r : BitVec 24) : Word := r ++ (0 : BitVec 8)

/-- `zext_32` (R13, R47). -/
def zext32 {n : Nat} (v : BitVec n) : Word := v.setWidth 32

/-- The 34-bit response word `rsp_o`: `ok` in bit 33, `done` in bit 32, `data` in bits 31:0 (R56). -/
def packResponse (r : Response) : BitVec 34 := BitVec.ofBool r.ok ++ BitVec.ofBool r.done ++ r.data

end Sys2Proof.Machine
end

