-- ==== Sys2Proof/Machine/Ops.lean ====
section
/-! DEFINITION. The primitives every command is written in: the environment primitives (00_scope.md R16 to R19), the
response (R14, R56), the register writes that several commands share, reset (R135), and the views at the ports (R9). -/

namespace Sys2Proof.Machine

/-- The level the k-th next `DoutRead` gives, counting from 0: what the environment has lined up, then a free value
(R17; log 1). -/
def doutAt (s : State) (k : Nat) : Level :=
  match s.doutScript[k]? with
  | some l => l
  | none => Config.freeDout (s.doutCount + k)

/-- The value the k-th next `NowMillis` gives, counting from 0 (R19; log 1). -/
def clockAt (s : State) (k : Nat) : Word :=
  match s.clockScript[k]? with
  | some t => t
  | none => Config.freeClock (s.clockCount + k)

/-- The level `DoutRead()` returns (R17). -/
def doutSample (s : State) : Level := doutAt s 0

/-- What `DoutRead()` does beside returning a level: the sample is used up, and `DOUT?=l` joins the trace (R17). -/
def doutTake (s : State) : State :=
  { s with
    doutScript := s.doutScript.tail
    doutCount := s.doutCount + 1
    trace := s.trace ++ [.dout (doutSample s)] }

/-- The value `NowMillis()` returns (R19). -/
def nowSample (s : State) : Word := clockAt s 0

/-- What `NowMillis()` does beside returning a value: the sample is used up; the trace has no event for it (R19, R21). -/
def nowTake (s : State) : State :=
  { s with
    clockScript := s.clockScript.tail
    clockCount := s.clockCount + 1 }

/-- `SckWrite(l)` (R16). -/
def sckWrite (l : Level) (s : State) : State :=
  { s with
    sck := l
    trace := s.trace ++ [.sck l] }

/-- `SckRead()`: a read-back of the line the block drives (R16, D10). -/
def sckRead (s : State) : Level := s.sck

/-- `return (ok, done, data)` (R14, R56): exactly one response for each command, which ends it (R10). -/
def respond (ok done : Bool) (data : Word) (s : State) : State :=
  { s with
    handshake := .answered
    responses := s.responses ++ [⟨ok, done, data⟩] }

/-- `return (1, 1, data)`: a GET command's answer (R56). -/
def answer (data : Word) (s : State) : State := respond true true data s

/-- `return (1, 1, 0)`: the answer of a command that returns no value (R56). -/
def answerNothing (s : State) : State := respond true true 0 s

/-- `return (0, 1, 0)`: the block's own refusal of a reserved opcode or an illegal operand (R59, R91, R121). -/
def answerRefused (s : State) : State := respond false true 0 s

/-- `pendingReadCount <- 0` (R32). -/
def clearPending (s : State) : State := { s with pendingReadCount := 0 }

/-- `cycleStartTime <- NowMillis()` (R33, R79, R94). -/
def stampTime (s : State) : State := { nowTake s with cycleStartTime := nowSample s }

/-- The host's next input has been taken (R10). -/
def setInputs (rest : List Input) (s : State) : State := { s with inputs := rest }

/-- The host's next input, a command, is accepted: until its response, `cmd_ready_o` is 0 (R10), and the response of the
command before is no longer present (log 16). -/
def accept (rest : List Input) (s : State) : State :=
  { s with
    inputs := rest
    handshake := .executing }

/-- `rst_i` asserted and released (R135): every register at its value of R136, and no response pending. What stands at the ports is the outside
world's and stays: the inputs and samples not used yet, and the record of responses and events (log 8). -/
def blockReset (s : State) : State :=
  { State.reset with
    inputs := s.inputs
    doutScript := s.doutScript
    clockScript := s.clockScript
    doutCount := s.doutCount
    clockCount := s.clockCount
    responses := s.responses
    trace := s.trace }

/-- `f` applied n times: the pseudocode's `repeat n times` (R72). -/
def times (n : Nat) (f : State → State) (s : State) : State :=
  match n with
  | 0 => s
  | m + 1 => times m f (f s)

/-- Port `sck_o`: always equals register `sck` (R9, R34). -/
def sckO (s : State) : Level := s.sck

/-- Port `cmd_ready_o`: 0 from the acceptance of a command until its response (R10, R85); and a command is accepted with
`PHASE` = IDLE only (R37). -/
def cmdReadyO (s : State) : Bool := s.handshake ≠ .executing && s.phase = .idle

/-- Port `cmd_valid_i` with `cmd_i`: the command word the host presents, if any (R9, R10). A POLL that reset will cut short
is presented as any POLL is, in its canonical encoding (D32; log 8). -/
def cmdI (s : State) : Option CommandWord :=
  match s.inputs with
  | .command w :: _ => some w
  | .pollCutByReset _ :: _ => some (encode .poll)
  | .reset :: _ | [] => none

/-- Port `cmd_valid_i` (R9, R10). -/
def cmdValidI (s : State) : Bool := (cmdI s).isSome

/-- Port `rsp_valid_o`: a response is present (R9). After reset none is (R135). -/
def rspValidO (s : State) : Bool := s.handshake = .answered

/-- Port `rsp_o`: the word of the response present, if one is (R9, R56). -/
def rspO (s : State) : Option (BitVec 34) :=
  if rspValidO s then s.responses.getLast?.map packResponse else none

end Sys2Proof.Machine
end

