-- ==== Sys2Proof/Machine/Flags.lean ====
section
/-! DEFINITION. The status register, the block's only flags (10_state.md R28, R29, R120): its codes, and every operation
that writes it. These take the place of exception entry and return, which the block does not have (60_exceptions.md
R119, R124 to R127). -/

namespace Sys2Proof.Machine

/-- The 2-bit code of a status (R28, D7). -/
def statusCode : Status → BitVec 2
  | .initializing => 0
  | .valid => 1
  | .poweredDown => 2
  | .timedOut => 3

/-- `status <- st` (R28). -/
def setStatus (st : Status) (s : State) : State := { s with status := st }

/-- Entering PoweredDown: nothing else changes (R73, R125). -/
def enterPoweredDown (s : State) : State := setStatus .poweredDown s

/-- Entering TimedOut: nothing is saved and nothing else changes (R74, R124). -/
def enterTimedOut (s : State) : State := setStatus .timedOut s

/-- Entering Valid (R82). -/
def enterValid (s : State) : State := setStatus .valid s

/-- Back to Initializing with the warm-up count zeroed: SETGAIN, PWRUP, and recovery (R75, R91, R94). -/
def restartWarmUp (s : State) : State := clearPending (setStatus .initializing s)

/-- The recovery step of POLL: the return from TimedOut (R75, R126). -/
def recoverFromTimeout (s : State) : State := if s.status = .timedOut then restartWarmUp s else s

end Sys2Proof.Machine
end

