-- ==== Sys2Proof/Machine/Calibration.lean ====
section
/-! DEFINITION. Tare and scale calibration (44_calibration.md R107 to R118). None of these touches a pin, samples an
input, or writes `status`, `pendingReadCount` or a sample. -/

namespace Sys2Proof.Machine

/-- `tareOffset <- v ; return (1, 1, 0)` (R107 to R109). -/
def storeTare (v : Word) (s : State) : State := answerNothing { s with tareOffset := v }

/-- `scaleFactor <- if v = 0 then 1 else v ; return (1, 1, 0)` (R113 to R115; C2). -/
def storeScale (v : Word) (s : State) : State := answerNothing { s with scaleFactor := zeroToOne v }

/-- The tare-adjusted sample, ×256-scaled (R111, R113, R117). -/
def tareAdjusted (sel : Selector) (s : State) : Word := sub32 (sample sel s) s.tareOffset

/-- The quotient of ADJ, with the divide-by-zero guard on `value` (R113, R114). -/
def adjustQuotient (sel : Selector) (value : Word) (s : State) : Word :=
  sdiv32 (tareAdjusted sel s) (zeroToOne value)

/-- TARE.R (R107). -/
def execTareR (s : State) : Host.Outcome State Fault Refusal := .next (storeTare (sample .raw s) s)

/-- TARE.S (R108). -/
def execTareS (s : State) : Host.Outcome State Fault Refusal := .next (storeTare (sample .smoothed s) s)

/-- SETTARE (R109). -/
def execSetTare (arg : Word) (s : State) : Host.Outcome State Fault Refusal := .next (storeTare arg s)

/-- GETTARE (R110): the register as it is, not divided. -/
def execGetTare (s : State) : Host.Outcome State Fault Refusal := .next (answer s.tareOffset s)

/-- GETMT.R (R111). -/
def execGetMtR (s : State) : Host.Outcome State Fault Refusal := .next (answer (toCount (tareAdjusted .raw s)) s)

/-- GETMT.S (R112). -/
def execGetMtS (s : State) : Host.Outcome State Fault Refusal := .next (answer (toCount (tareAdjusted .smoothed s)) s)

/-- ADJ.R (R113). -/
def execAdjR (arg : Word) (s : State) : Host.Outcome State Fault Refusal :=
  .next (storeScale (adjustQuotient .raw arg s) s)

/-- ADJ.S (R114). -/
def execAdjS (arg : Word) (s : State) : Host.Outcome State Fault Refusal :=
  .next (storeScale (adjustQuotient .smoothed arg s) s)

/-- SETSCALE (R115). -/
def execSetScale (arg : Word) (s : State) : Host.Outcome State Fault Refusal := .next (storeScale arg s)

/-- GETSCALE (R116). -/
def execGetScale (s : State) : Host.Outcome State Fault Refusal := .next (answer s.scaleFactor s)

/-- GETADJ.R (R117): no division by 256. -/
def execGetAdjR (s : State) : Host.Outcome State Fault Refusal :=
  .next (answer (sdiv32 (tareAdjusted .raw s) s.scaleFactor) s)

/-- GETADJ.S (R118). -/
def execGetAdjS (s : State) : Host.Outcome State Fault Refusal :=
  .next (answer (sdiv32 (tareAdjusted .smoothed s) s.scaleFactor) s)

end Sys2Proof.Machine
end

