-- ==== Sys2Proof/Machine/Control.lean ====
section
/-! DEFINITION. Gain, power and warm-up configuration (42_config.md R90 to R96). -/

namespace Sys2Proof.Machine

/-- GETSTATUS (R90). -/
def execGetStatus (s : State) : Host.Outcome State Fault Refusal :=
  .next (answer (zext32 (statusCode s.status)) s)

/-- SETGAIN (R91). A reserved code changes nothing and is answered `ok` = 0, which is the effect the spec gives it
(log 4). -/
def execSetGain (arg : Word) (s : State) : Host.Outcome State Fault Refusal :=
  .next (if gainLegal arg then answerNothing (restartWarmUp { s with gainMode := gainCode arg }) else answerRefused s)

/-- GETGAIN (R92). -/
def execGetGain (s : State) : Host.Outcome State Fault Refusal := .next (answer (zext32 s.gainMode) s)

/-- PWRDN (R93): `status` is not written. -/
def execPwrDn (s : State) : Host.Outcome State Fault Refusal := .next (answerNothing (sckWrite .high s))

/-- PWRUP (R94). -/
def execPwrUp (s : State) : Host.Outcome State Fault Refusal :=
  .next (answerNothing (stampTime (restartWarmUp (sckWrite .low s))))

/-- SETREQ (R95): writes `requiredReadCount` only. -/
def execSetReq (arg : Word) (s : State) : Host.Outcome State Fault Refusal :=
  .next (answerNothing { s with requiredReadCount := lowByte arg })

/-- GETREQ (R96). -/
def execGetReq (s : State) : Host.Outcome State Fault Refusal := .next (answer (zext32 s.requiredReadCount) s)

end Sys2Proof.Machine
end

