-- ==== Sys2Proof/Machine/Filter.lean ====
section
/-! DEFINITION. The exponential smoothing filter (43_filter.md R97) and the filter and reading commands (R103 to R106). -/

namespace Sys2Proof.Machine

/-- The filter's step: `sdiv32` by 256 first, then `mul32` by the factor; the order is normative (R70, R97). -/
def smoothStep (acc raw : Word) (factor : Byte) : Word := mul32 (sdiv32 (sub32 raw acc) fracUnit) factor

/-- `Smooth(s, r, f)` (R97). -/
def smooth (acc raw : Word) (factor : Byte) : Word := add32 acc (smoothStep acc raw factor)

/-- SETSMF (R103). -/
def execSetSmf (arg : Word) (s : State) : Host.Outcome State Fault Refusal :=
  .next (answerNothing { s with smoothingFactor := lowByte arg })

/-- GETSMF (R104). -/
def execGetSmf (s : State) : Host.Outcome State Fault Refusal :=
  .next (answer (zext32 s.smoothingFactor) s)

/-- GETRAW (R105). -/
def execGetRaw (s : State) : Host.Outcome State Fault Refusal :=
  .next (answer (toCount (sample .raw s)) s)

/-- GETSMOOTHED (R106). -/
def execGetSmoothed (s : State) : Host.Outcome State Fault Refusal :=
  .next (answer (toCount (sample .smoothed s)) s)

end Sys2Proof.Machine
end

