-- ==== Sys2Proof/Machine/Poll.lean ====
section
/-! DEFINITION. POLL (41_poll.md R72 to R82), step by step as its pseudocode has it. -/

namespace Sys2Proof.Machine

/-- `SHREG <- SHREG[22:0] ++ DoutRead()` (R72 lines 16 and 18, R87). -/
def sampleBit (s : State) : State := { doutTake s with shreg := shiftIn s.shreg (doutSample s) }

/-- One more clock pulse is complete (R36, R87). -/
def countPulse (s : State) : State := { s with pcnt := s.pcnt + 1 }

/-- Line 13: the scratch registers at the start of a transfer; `cmd_ready_o` is 0 from here (R76, R85). -/
def transferStart (s : State) : State :=
  { s with
    shreg := 0
    pcnt := 0
    xtra := s.gainMode
    handshake := .executing }

/-- One data pulse: clock high, one sample, clock low (R76, D28). -/
def dataPulse (s : State) : State := countPulse (sckWrite .low (sampleBit (sckWrite .high s)))

/-- Line 19: the sample commit (R77). -/
def commitSample (s : State) : State := { s with rawSample := widenCount s.shreg }

/-- One gain pulse: clock high, clock low, no sample (R78, D28). -/
def gainPulse (s : State) : State := countPulse (sckWrite .low (sckWrite .high s))

/-- Lines 32 and 33 (R82). -/
def reportValid (s : State) : State := answerNothing (enterValid s)

/-- The increment of line 25 (R80). -/
def countTransfer (s : State) : State := { s with pendingReadCount := s.pendingReadCount + 1 }

/-- Line 28: the seed, no blending (R80). -/
def seed (s : State) : State := { s with smoothedSample := s.rawSample }

/-- Line 30: the smoothing step (R81, R97). -/
def blend (s : State) : State := { s with smoothedSample := smooth s.smoothedSample s.rawSample s.smoothingFactor }

/-- Warm-up is not finished: an unsigned 8-bit comparison (R69). -/
def warming (s : State) : Bool := s.pendingReadCount < s.requiredReadCount

/-- Lines 24 to 33: warm-up counting, seeding or smoothing (R80 to R82). The warm-up path does not write `status`
(C3, D15). -/
def settle (s : State) : State :=
  if warming s then
    if warming (countTransfer s) then respond true false 0 (countTransfer s)
    else reportValid (seed (countTransfer s))
  else reportValid (blend s)

/-- Lines 23 to 33: stamp, then warm-up or smoothing, status and response; the sequencer is back at IDLE (R79 to R82,
R89). -/
def transferFinish (s : State) : State := settle (stampTime { s with phase := .idle })

/-- Lines 13 to 33: the transfer. The number of gain pulses is the current `gainMode` (R78). -/
def transfer (s : State) : State :=
  transferFinish
    (times s.gainMode.toNat gainPulse (commitSample (times Config.dataBits dataPulse (transferStart s))))

/-- Lines 6 to 10: the busy check's outcome when the data line is high (R74). `s` is the state after the data sample. -/
def busy (s : State) : State :=
  if windowExpired (nowSample s) s.cycleStartTime then answerNothing (enterTimedOut (nowTake s))
  else respond true false 0 (nowTake s)

/-- Lines 1 to 12, with what is done once a transfer starts: the power check, the busy check and recovery, in that order
(R73 to R75, R123; C1). -/
def pollWith (onReady : State → State) (s : State) : State :=
  if sckRead s = .high then answerNothing (enterPoweredDown s)
  else if doutSample s = .high then busy (doutTake s)
  else onReady (recoverFromTimeout (doutTake s))

/-- POLL (R72). -/
def execPoll (s : State) : Host.Outcome State Fault Refusal := .next (pollWith transfer s)

end Sys2Proof.Machine
end

