-- ==== Sys2Proof/Machine/Dispatch.lean ====
section
/-! DEFINITION. Which meaning each command has: one arm for each row of spec/opcode_table.json (30_encoding.md R58). -/

namespace Sys2Proof.Machine

/-- The transition of one command (00_scope.md R6). -/
def exec (i : Instr) (s : State) : Host.Outcome State Fault Refusal :=
  match i with
  | .poll => Sys2Proof.Machine.execPoll s
  | .getStatus => Sys2Proof.Machine.execGetStatus s
  | .setGain arg => Sys2Proof.Machine.execSetGain arg s
  | .getGain => Sys2Proof.Machine.execGetGain s
  | .pwrDn => Sys2Proof.Machine.execPwrDn s
  | .pwrUp => Sys2Proof.Machine.execPwrUp s
  | .setReq arg => Sys2Proof.Machine.execSetReq arg s
  | .getReq => Sys2Proof.Machine.execGetReq s
  | .setSmf arg => Sys2Proof.Machine.execSetSmf arg s
  | .getSmf => Sys2Proof.Machine.execGetSmf s
  | .getRaw => Sys2Proof.Machine.execGetRaw s
  | .getSmoothed => Sys2Proof.Machine.execGetSmoothed s
  | .tareR => Sys2Proof.Machine.execTareR s
  | .tareS => Sys2Proof.Machine.execTareS s
  | .setTare arg => Sys2Proof.Machine.execSetTare arg s
  | .getTare => Sys2Proof.Machine.execGetTare s
  | .getMtR => Sys2Proof.Machine.execGetMtR s
  | .getMtS => Sys2Proof.Machine.execGetMtS s
  | .adjR arg => Sys2Proof.Machine.execAdjR arg s
  | .adjS arg => Sys2Proof.Machine.execAdjS arg s
  | .setScale arg => Sys2Proof.Machine.execSetScale arg s
  | .getScale => Sys2Proof.Machine.execGetScale s
  | .getAdjR => Sys2Proof.Machine.execGetAdjR s
  | .getAdjS => Sys2Proof.Machine.execGetAdjS s

end Sys2Proof.Machine
end

