-- ==== Sys2Proof/Machine/Sequencer.lean ====
section
/-! DEFINITION. The pulse-level rendering of a transfer, one transition for each clock edge (41_poll.md R85 to R89), and
a transfer cut short by reset (70_reset_and_hazards.md R135, R150). R85 is `transferStart`. -/

namespace Sys2Proof.Machine

/-- The clock pulses of the transfer in progress, `24 + XTRA` (R36, R89). -/
def pulseTotal (s : State) : Nat := Config.dataBits + s.xtra.toNat

/-- Rising edge (R86). -/
def risingEdge (s : State) : State := { sckWrite .high s with phase := .high }

/-- The sample of R87: only during the data pulses. -/
def sampleIfData (s : State) : State := if s.pcnt.toNat < Config.dataBits then sampleBit s else s

/-- The commit of R88, when `PCNT` has just become 24. -/
def commitIfComplete (s : State) : State := if s.pcnt.toNat = Config.dataBits then commitSample s else s

/-- Sample and falling edge, with the commit that follows the 24th (R87, R88). -/
def fallingEdge (s : State) : State :=
  commitIfComplete (countPulse { sckWrite .low (sampleIfData s) with phase := .low })

/-- One transition of the sequencer (R86 to R89); where no rule applies, none. -/
def seqStep (s : State) : State :=
  match s.phase with
  | .high => fallingEdge s
  | .idle => if s.pcnt.toNat < pulseTotal s then risingEdge s else s
  | .low =>
    if s.pcnt.toNat < pulseTotal s then risingEdge s
    else if s.pcnt.toNat = pulseTotal s then transferFinish s
    else s

/-- A transfer is in progress and none of R86 to R89 applies (log 10). -/
def seqStuck (s : State) : Bool :=
  match s.phase with
  | .high => false
  | .idle => pulseTotal s ≤ s.pcnt.toNat
  | .low => pulseTotal s < s.pcnt.toNat

/-- A transition of a transfer found in progress by the step; in a stuck sequencer, a fault (log 10). -/
def continueTransfer (s : State) : Host.Outcome State Fault Refusal :=
  if seqStuck s then .fault .sequencerStuck else .next (seqStep s)

/-- The transitions from R85 to the end of R89: two edges for each pulse, then the finish. -/
def edgeTotal (s : State) : Nat := 2 * pulseTotal s + 1

/-- A whole transfer, edge by edge (R85 to R89). -/
def transferByEdges (s : State) : State := times (edgeTotal (transferStart s)) seqStep (transferStart s)

/-- POLL with its transfer rendered edge by edge (R72 lines 1 to 12, then R85 to R89). -/
def pollByEdges (s : State) : State := pollWith transferByEdges s

/-- A POLL cut by `rst_i` after that many clock edges of its transfer: the transfer is abandoned (R135). If the POLL ends
before a transfer, or the transfer within that many transitions, reset comes after it (log 8). -/
def pollCutByReset (edges : Nat) (s : State) : State :=
  blockReset (pollWith (fun t => times edges seqStep (transferStart t)) s)

end Sys2Proof.Machine
end

