-- ==== Sys2Proof/Machine/Step.lean ====
section
/-! DEFINITION. One step of the machine: the host's next input, taken whole (00_scope.md R6, R10). -/

namespace Sys2Proof.Machine

/-- A command word accepted by the block: its command is executed, or, if its opcode is reserved, answered (0, 1, 0) with
no effect (R59; log 3). -/
def issue (w : CommandWord) (s : State) : Host.Outcome State Fault Refusal :=
  match decode w with
  | some i => exec i s
  | none => .next (answerRefused s)

/-- One step. With no input the block waits (log 2). Where `cmd_ready_o` is 0 (R10, R85) a
command stays where it is and the transfer in progress goes on by one transition (log 10). Reset may come at any time (R135). -/
def step (s : State) : Host.Outcome State Fault Refusal :=
  match s.inputs with
  | [] => if cmdReadyO s then .next s else continueTransfer s
  | .reset :: rest => .next (blockReset (setInputs rest s))
  | .command w :: rest => if cmdReadyO s then issue w (accept rest s) else continueTransfer s
  | .pollCutByReset edges :: rest =>
    if cmdReadyO s then .next (pollCutByReset edges (accept rest s)) else continueTransfer s

/-- The state in which the next command the host presents is that of the table word `w`, and the block is ready for it
(log 2). -/
def State.withFetchWord (s : State) (nbits w : Nat) : State :=
  { s with
    inputs := .command (commandOfNat nbits w) :: s.inputs
    handshake := .ready
    phase := .idle }

end Sys2Proof.Machine
end

