-- ==== Sys2Proof/Safety.lean ====
section
/-! DEFINITION. What a sound state of the block is (10_state.md R41), what it means for a step to be safe, and the
environment premises a claim may need (00_scope.md R20). -/

namespace Sys2Proof.Machine

/-- The invariants of R41 that are about one state: items 1, 2 (for `rawSample`), 4, 5, and `PHASE` = IDLE of item 6; and two about the
ports between commands (R10). -/
structure BlockInv (s : State) : Prop where
  /-- item 1: `scaleFactor` ≠ 0 -/
  scale_ne_zero : s.scaleFactor ≠ 0
  /-- item 2: `rawSample[7:0]` = 0 -/
  raw_low_byte : s.rawSample.extractLsb' 0 8 = 0
  /-- item 4: `gainMode` is in 1..5 -/
  gain_legal : 1 ≤ s.gainMode.toNat ∧ s.gainMode.toNat ≤ 5
  /-- item 5: `status` = PoweredDown implies `sck` = 1 -/
  powered_down_high : s.status = .poweredDown → s.sck = .high
  /-- item 6: between commands `PHASE` = IDLE -/
  phase_idle : s.phase = .idle
  /-- between commands none is in execution: each is executed to completion (R10, R48) -/
  not_executing : s.handshake ≠ .executing
  /-- where `rsp_valid_o` is 1 there is a response (R9, R10) -/
  response_present : s.handshake = .answered → s.responses ≠ []

/-- The commands of a list, executed one after another (R10); `none` if one of them does not complete. -/
def execAll : List Instr → State → Option State
  | [], s => some s
  | i :: is, s =>
    match exec i s with
    | .next t => execAll is t
    | .fault _ | .refused _ => none

/-- A step is safe when it neither faults nor is refused: "every public operation is total" (R119). -/
def SafeStep (s : State) : Prop := ∃ t, step s = .next t

/-- `ENV-MONO` for two successive clock samples (R20). -/
def EnvMono (t1 t2 : Word) : Prop := (usub32 t2 t1).toNat < 2 ^ 31

/-- `ENV-FRAME` for the conversion result `count` (R20): after a low busy check, the next 24 samples are its bits, most
significant first. -/
def EnvFrame (s : State) (count : BitVec 24) : Prop :=
  ∀ k < 24, doutAt s (k + 1) = if count.getMsbD k then .high else .low

/-- The milliseconds since the last stamp, as the next clock sample shows them: the unsigned difference modulo 2^32, on
numbers (R68, R69). `k` is which of the next clock samples. -/
def elapsedSince (s : State) (k : Nat) : Nat :=
  ((clockAt s k).toNat + 2 ^ 32 - s.cycleStartTime.toNat) % 2 ^ 32

/-- `pendingReadCount` after the recovery step of a POLL whose transfer starts: R83's `p`. -/
def pendingAfterRecovery (s : State) : Nat := if s.status = .timedOut then 0 else s.pendingReadCount.toNat

/-- The trace events of one gain pulse (R21, R78). -/
def gainPulseEvents : List Event := [.sck .high, .sck .low]

/-- The trace events of the k-th data pulse of the transfer that starts at `s`, k from 0 (R76). -/
def dataPulseEvents (s : State) (k : Nat) : List Event := [.sck .high, .dout (doutAt s (k + 1)), .sck .low]

end Sys2Proof.Machine
end

