-- ==== Sys2Proof/WellFormed.lean ====
section
/-! DEFINITION. Which commands are well formed: defined commands with a legal operand. -/

namespace Sys2Proof

/-- SETGAIN's operand is one of the five gain codes, all 32 bits tested (R57, R91); every other command takes any
operand. An ill-formed command is still executed: the block answers it `ok` = 0 (R91, R121; log 4). -/
def Instr.wellFormed : Instr → Bool
  | .setGain arg => GainName.all.any fun g => g.operand == arg
  | .poll | .getStatus | .getGain | .pwrDn | .pwrUp | .setReq _ | .getReq | .setSmf _ | .getSmf | .getRaw
  | .getSmoothed | .tareR | .tareS | .setTare _ | .getTare | .getMtR | .getMtS | .adjR _ | .adjS _ | .setScale _
  | .getScale | .getAdjR | .getAdjS => true

end Sys2Proof
end

