-- ==== Sys2Proof/Certificates/Slice0/Obligations.lean ====
section
/-! DEFINITION. The statements for the provers. Each is about every state and every operand that meets its hypotheses;
samples of the data line and of the clock are whatever the environment gives (`doutAt`, `clockAt`). -/

open Sys2Proof Sys2Proof.Machine

/-! ### Encoding -/

/-- R54, R58, R61: decoding the encoding of a command gives the command back, for every command and every operand; also
when the word is handed over as a number, numbered as the opcode table numbers it. -/
def Obligations.DecodeOfEncodeIsIdentity : Prop :=
  ∀ i : Instr,
    decode (encode i) = some i ∧ decodeTableWord 40 (encode i).toNat = some i

/-- R54, R57, D32: a word has one meaning. A word that decodes to a command is that command's opcode in bits 39:32, and,
where the command uses its operand, the operand in bits 31:0; where it does not, any operand field gives the same. -/
def Obligations.WordIsOpcodeAndOperand : Prop :=
  ∀ (w : CommandWord) (i : Instr), decode w = some i →
    w.extractLsb' 32 8 = opcode i ∧
    (usesOperand i = true → w = encode i) ∧
    (usesOperand i = false → ∀ arg : Word, decode (opcode i ++ arg) = some i)

/-- R58, R59: the decoder refuses a word exactly when its opcode is one of the reserved values 0x00, 0x03, 0x0C to 0x0F
and 0x1E to 0xFF, whatever its operand. -/
def Obligations.ReservedOpcodesAreExactlyRefused : Prop :=
  ∀ (op : BitVec 8) (arg : Word), decode (op ++ arg) = none ↔
    (op.toNat = 0x00 ∨ op.toNat = 0x03 ∨ (0x0C ≤ op.toNat ∧ op.toNat ≤ 0x0F) ∨ 0x1E ≤ op.toNat)

/-- Words written out from R54, R58 and R61's examples decode to the commands they stand for. -/
def Obligations.SampleCommandWordsDecode : Prop :=
  decode 0x0100000000#40 = some .poll ∧
  decode 0x02DEADBEEF#40 = some .getStatus ∧
  decode 0x0400000003#40 = some (.setGain 3) ∧
  decode 0x08000001FF#40 = some (.setReq 0x1FF) ∧
  decode 0x0A00000040#40 = some (.setSmf 64) ∧
  decode 0x18FFFFFFFE#40 = some (.adjR (-2)) ∧
  decode 0x19000493E0#40 = some (.adjS 300000) ∧
  decode 0x1AFFFFFFFB#40 = some (.setScale (-5)) ∧
  decode 0x1D00000000#40 = some .getAdjS ∧
  decode 0x0300000000#40 = none ∧
  decode 0xFFFFFFFFFF#40 = none

/-! ### The step -/

/-- R10, R48: when the block is ready and the host's next input is a command word that decodes, one step is the command's
transition on the state in which the input has been taken and the command is in execution. (Inputs, handshake: logs 2 and
16.) -/
def Obligations.StepRunsDecodedCommand : Prop :=
  ∀ (s : State) (w : CommandWord) (rest : List Input) (i : Instr),
    cmdReadyO s = true → s.inputs = .command w :: rest → decode w = some i →
    step s = exec i { s with inputs := rest, handshake := .executing }

/-- R59: a command word with a reserved opcode changes no register, drives no pin, samples no input, appends nothing to
the trace, and is answered (0, 1, 0). That the model executes it rather than refuse it is log 3. -/
def Obligations.ReservedOpcodeAnsweredWithoutEffect : Prop :=
  ∀ (s : State) (w : CommandWord) (rest : List Input),
    cmdReadyO s = true → s.inputs = .command w :: rest → decode w = none →
    step s = .next { s with inputs := rest, handshake := .answered, responses := s.responses ++ [⟨false, true, 0⟩] }

/-- The model's choice (log 2): a ready block with no input waits, unchanged. -/
def Obligations.IdleBlockWaits : Prop :=
  ∀ s : State, cmdReadyO s = true → s.inputs = [] → step s = .next s

/-- R135, R136: reset, at any time, puts every register at its reset value, with no response pending. That the record of
responses and events and the samples not used yet stay is the model's choice (log 8). (The values R136 decides are not
draws: log 7.) -/
def Obligations.ResetSetsEveryRegister : Prop :=
  ∀ (s : State) (rest : List Input), s.inputs = .reset :: rest →
    step s = .next
      { rawSample := 0, smoothedSample := 0, tareOffset := 0, scaleFactor := 1, gainMode := 1, status := .initializing,
        requiredReadCount := 3, smoothingFactor := Config.smfInit, pendingReadCount := 0, cycleStartTime := 0,
        sck := .low, shreg := 0, pcnt := 0, phase := .idle, xtra := 0, inputs := rest, handshake := .ready,
        doutScript := s.doutScript, clockScript := s.clockScript, doutCount := s.doutCount, clockCount := s.clockCount,
        responses := s.responses,
        trace := s.trace }

/-- R136: the value of every register after reset, and what the getters answer then.
(That the values R136 decides are not draws is log 7; the parameters are log 11.) -/
def Obligations.ResetValuesAndFirstReadings : Prop :=
  (State.reset.gainMode = 1 ∧ State.reset.requiredReadCount = 3 ∧ State.reset.status = .initializing ∧
    State.reset.pendingReadCount = 0 ∧ State.reset.smoothingFactor = Config.smfInit ∧ State.reset.rawSample = 0 ∧
    State.reset.smoothedSample = 0 ∧ State.reset.tareOffset = 0 ∧ State.reset.scaleFactor = 1 ∧
    State.reset.cycleStartTime = 0 ∧ State.reset.sck = .low ∧ State.reset.shreg = 0 ∧ State.reset.pcnt = 0 ∧
    State.reset.xtra = 0 ∧ State.reset.phase = .idle) ∧
  (∀ i ∈ [Instr.getRaw, .getSmoothed, .getTare, .getMtR, .getMtS, .getAdjR, .getAdjS, .getStatus],
    exec i State.reset = .next
        { State.reset with handshake := .answered, responses := State.reset.responses ++ [⟨true, true, 0⟩] }) ∧
  (∀ i ∈ [Instr.getScale, .getGain],
    exec i State.reset = .next
        { State.reset with handshake := .answered, responses := State.reset.responses ++ [⟨true, true, 1⟩] }) ∧
  exec .getReq State.reset = .next
      { State.reset with handshake := .answered, responses := State.reset.responses ++ [⟨true, true, 3⟩] } ∧
  exec .getSmf State.reset =
    .next
      { State.reset with
        handshake := .answered
        responses := State.reset.responses ++ [⟨true, true, Config.smfInit.setWidth 32⟩] }

/-- R135, R150: a transfer cut short by reset after any number of its clock edges produces no response, and leaves every
register at its reset value, the clock line low among them. That such a reset is one input item is the model's choice
(log 8). (Reset values: log 7.) -/
def Obligations.ResetAbandonsTransfer : Prop :=
  ∀ (s : State) (rest : List Input) (edges : Nat),
    cmdReadyO s = true → s.inputs = .pollCutByReset edges :: rest → s.sck = .low → doutAt s 0 = .low →
    edges ≤ 2 * (24 + s.gainMode.toNat) →
    ∃ t, step s = .next t ∧ t.responses = s.responses ∧
      t = { State.reset with
            inputs := rest, responses := s.responses, doutScript := t.doutScript, clockScript := s.clockScript,
            doutCount := t.doutCount, clockCount := s.clockCount, trace := t.trace } ∧
      t.doutCount = s.doutCount + 1 + min 24 (edges / 2) ∧ s.trace ++ [.dout .low] <+: t.trace

/-- R9, R135: after reset, between two commands or in the middle of a POLL, no response is pending (`rsp_valid_o` is 0 and
`rsp_o` carries none), the block is ready for a command, and the clock line is low. (Reset as an input item: log 8.) -/
def Obligations.ResetLeavesNoResponsePending : Prop :=
  ∀ (s : State) (rest : List Input) (edges : Nat),
    s.inputs = .reset :: rest ∨ (cmdReadyO s = true ∧ s.inputs = .pollCutByReset edges :: rest) →
    ∃ t, step s = .next t ∧ rspValidO t = false ∧ rspO t = none ∧ cmdReadyO t = true ∧ sckO t = .low

/-! ### Invariants and totality -/

/-- R10, R41: whatever the step does from a state that meets the invariants (a command, a reserved opcode, reset, an abandoned
transfer, waiting), the next state meets them.
(A reserved opcode, an ill-formed SETGAIN executed: logs 3 and 4; inputs, a step with `PHASE` not IDLE, the handshake:
logs 2, 10 and 16, of the model.) -/
def Obligations.EveryStepKeepsInvariants : Prop :=
  ∀ s t : State, BlockInv s → step s = .next t → BlockInv t

/-- R41, R136: the state after reset meets the invariants. (Reset values: logs 7 and 11.) -/
def Obligations.ResetMeetsInvariants : Prop := BlockInv State.reset

/-- R119: no run from a state that meets the invariants ever stops, whatever the host issues and the environment answers.
(It rests on choices of the model: a reserved opcode is executed, log 3; so is an ill-formed SETGAIN, log 4; a ready
block with no input waits, log 2.) -/
def Obligations.NoRunStops : Prop :=
  ∀ (n : Nat) (s : State), BlockInv s → ∃ t, Host.Core.run Sys2Proof.core n s = .next t ∧ BlockInv t

/-- R10, R56, R119: every command, in every state, runs to completion and appends exactly one response; `ok` is 1 exactly
for a legal operand, `done` is 1 for every command but POLL, and `data` is 0 for every command that returns no value. The
response is then present at `rsp_o`, and the block is ready again.
(That an ill-formed SETGAIN is executed is log 4.) -/
def Obligations.EveryCommandAnswersOnce : Prop :=
  ∀ (i : Instr) (s : State), ∃ t r, exec i s = .next t ∧ t.responses = s.responses ++ [r] ∧
    r.ok = i.wellFormed ∧
    (i ≠ .poll → r.done = true) ∧
    (i ∉ [Instr.getStatus, .getGain, .getReq, .getSmf, .getRaw, .getSmoothed, .getTare, .getMtR, .getMtS, .getScale,
          .getAdjR, .getAdjS] → r.data = 0) ∧
    rspValidO t = true ∧ rspO t = some (packResponse r) ∧ (s.phase = .idle → cmdReadyO t = true)

/-- R9, R56: the response word at port `rsp_o` carries `ok` in bit 33, `done` in bit 32 and `data` in bits 31:0. -/
def Obligations.ResponseWordLayout : Prop :=
  ∀ (s : State) (ok done : Bool) (data : Word), ∃ w, rspO (respond ok done data s) = some w ∧
    w.getLsbD 33 = ok ∧ w.getLsbD 32 = done ∧ w.extractLsb' 0 32 = data

/-! ### Whole-machine rules -/

/-- R23 to R37, R49: which commands write each of the fifteen registers, add to the trace, and use samples up. Every other
command leaves it. (`PCNT` and `XTRA` between commands: log 9; the samples in State: log 1.) -/
def Obligations.RegistersHaveOnlyTheirWriters : Prop :=
  ∀ (i : Instr) (s t : State), exec i s = .next t →
    (t.rawSample ≠ s.rawSample → i = .poll) ∧
    (t.smoothedSample ≠ s.smoothedSample → i = .poll) ∧
    (t.tareOffset ≠ s.tareOffset → i = .tareR ∨ i = .tareS ∨ ∃ a, i = .setTare a) ∧
    (t.scaleFactor ≠ s.scaleFactor → (∃ a, i = .adjR a) ∨ (∃ a, i = .adjS a) ∨ ∃ a, i = .setScale a) ∧
    (t.gainMode ≠ s.gainMode → ∃ a, i = .setGain a) ∧
    (t.status ≠ s.status → i = .poll ∨ i = .pwrUp ∨ ∃ a, i = .setGain a) ∧
    (t.requiredReadCount ≠ s.requiredReadCount → ∃ a, i = .setReq a) ∧
    (t.smoothingFactor ≠ s.smoothingFactor → ∃ a, i = .setSmf a) ∧
    (t.pendingReadCount ≠ s.pendingReadCount → i = .poll ∨ i = .pwrUp ∨ ∃ a, i = .setGain a) ∧
    (t.cycleStartTime ≠ s.cycleStartTime → i = .poll ∨ i = .pwrUp) ∧
    (t.sck ≠ s.sck → i = .pwrDn ∨ i = .pwrUp) ∧
    (t.shreg ≠ s.shreg → i = .poll) ∧ (t.pcnt ≠ s.pcnt → i = .poll) ∧ (t.phase ≠ s.phase → i = .poll) ∧
    (t.xtra ≠ s.xtra → i = .poll) ∧
    (t.trace ≠ s.trace → i = .poll ∨ i = .pwrDn ∨ i = .pwrUp) ∧
    (t.doutScript ≠ s.doutScript ∨ t.doutCount ≠ s.doutCount → i = .poll) ∧
    (t.clockScript ≠ s.clockScript ∨ t.clockCount ≠ s.clockCount → i = .poll ∨ i = .pwrUp) ∧
    t.inputs = s.inputs

/-- R49: a GET command changes no register, drives no pin, samples no input and appends nothing to the trace, and is
idempotent: issued again it gives the same answer. -/
def Obligations.GetCommandsArePure : Prop :=
  ∀ (i : Instr) (s t : State),
    i ∈ [Instr.getStatus, .getGain, .getReq, .getSmf, .getRaw, .getSmoothed, .getTare, .getMtR, .getMtS, .getScale,
      .getAdjR, .getAdjS] →
    exec i s = .next t →
    ∃ r, t = { s with handshake := .answered, responses := s.responses ++ [r] } ∧
      exec i t = .next { t with handshake := .answered, responses := t.responses ++ [r] }

/-- R29: the complete transition relation of `status`, one clause for each row of its table.
(That an ill-formed SETGAIN is executed is log 4.) -/
def Obligations.StatusTransitionRelation : Prop :=
  (∀ (s : State) (rest : List Input), s.inputs = .reset :: rest → ∃ t, step s = .next t ∧ t.status = .initializing) ∧
  ∀ (i : Instr) (s t : State), exec i s = .next t →
    (i = .poll → s.sck = .high → t.status = .poweredDown) ∧
    (i = .poll → s.sck = .low → doutAt s 0 = .high → 500 < elapsedSince s 0 → t.status = .timedOut) ∧
    (i = .poll → s.sck = .low → doutAt s 0 = .high → elapsedSince s 0 ≤ 500 → t.status = s.status) ∧
    (i = .poll → s.sck = .low → doutAt s 0 = .low → pendingAfterRecovery s + 1 < s.requiredReadCount.toNat →
      t.status = if s.status = .timedOut then .initializing else s.status) ∧
    (i = .poll → s.sck = .low → doutAt s 0 = .low → s.requiredReadCount.toNat ≤ pendingAfterRecovery s + 1 →
      t.status = .valid) ∧
    (∀ a, i = .setGain a → 1 ≤ a.toNat → a.toNat ≤ 5 → t.status = .initializing) ∧
    (∀ a, i = .setGain a → a.toNat < 1 ∨ 5 < a.toNat → t.status = s.status) ∧
    (i = .pwrUp → t.status = .initializing) ∧
    (i ≠ .poll → (∀ a, i ≠ .setGain a) → i ≠ .pwrUp → t.status = s.status)

/-- R126: the ways out of TimedOut are a POLL that finds the clock line high or the data line low, a SETGAIN with a legal
operand, and PWRUP; each but the first zeroes the warm-up count before anything is counted. -/
def Obligations.WaysOutOfTimedOut : Prop :=
  ∀ (i : Instr) (s t : State), s.status = .timedOut → exec i s = .next t → t.status ≠ .timedOut →
    (i = .poll ∧ s.sck = .high) ∨
    (i = .poll ∧ doutAt s 0 = .low ∧ t.pendingReadCount.toNat ≤ 1) ∨
    (∃ a, i = .setGain a ∧ (Instr.setGain a).wellFormed = true ∧ t.pendingReadCount = 0) ∨
    (i = .pwrUp ∧ t.pendingReadCount = 0)

/-- R127, R134 and item 6 of R41: while the clock line is high, only PWRUP lowers it, and every POLL reports PoweredDown;
whatever runs in between.
(That the list may hold an ill-formed SETGAIN, which is executed, is log 4.) -/
def Obligations.PoweredDownUntilPowerUp : Prop :=
  ∀ (is : List Instr) (s : State), s.sck = .high → .pwrUp ∉ is →
    ∃ t, execAll is s = some t ∧ t.sck = .high ∧
      exec .poll t = .next
          { t with status := .poweredDown, handshake := .answered, responses := t.responses ++ [⟨true, true, 0⟩] }

/-- R32, R41 item 7: no command takes the warm-up count above both what it was and the required count, so the 8-bit
increment never wraps. -/
def Obligations.WarmUpCountNeverOverflows : Prop :=
  ∀ (i : Instr) (s t : State), exec i s = .next t →
    t.pendingReadCount.toNat ≤ max s.pendingReadCount.toNat s.requiredReadCount.toNat ∧
    (s.pendingReadCount.toNat < t.pendingReadCount.toNat →
      i = .poll ∧ t.pendingReadCount.toNat = s.pendingReadCount.toNat + 1)

/-! ### POLL -/

/-- R73, R125: with the clock line high POLL sets PoweredDown, answers (1, 1, 0), and does nothing else. -/
def Obligations.PollPoweredDown : Prop :=
  ∀ s : State, s.sck = .high →
    exec .poll s = .next
        { s with status := .poweredDown, handshake := .answered, responses := s.responses ++ [⟨true, true, 0⟩] }

/-- R74, R124: with the clock line low and the data line high, POLL takes one data sample and one clock sample. More than
500 ms after the stamp it sets TimedOut and answers (1, 1, 0); otherwise it writes no register and answers (1, 0, 0). With
both lines low it takes the data sample and goes on to recovery and the transfer. -/
def Obligations.PollBusyCheck : Prop :=
  ∀ s : State, s.sck = .low →
    (doutAt s 0 = .high → 500 < elapsedSince s 0 →
      exec .poll s = .next
        { s with
          status := .timedOut, doutScript := s.doutScript.tail, doutCount := s.doutCount + 1,
          clockScript := s.clockScript.tail, clockCount := s.clockCount + 1, trace := s.trace ++ [.dout .high],
          handshake := .answered, responses := s.responses ++ [⟨true, true, 0⟩] }) ∧
    (doutAt s 0 = .high → elapsedSince s 0 ≤ 500 →
      exec .poll s = .next
        { s with
          doutScript := s.doutScript.tail, doutCount := s.doutCount + 1,
          clockScript := s.clockScript.tail, clockCount := s.clockCount + 1, trace := s.trace ++ [.dout .high],
          handshake := .answered, responses := s.responses ++ [⟨true, false, 0⟩] }) ∧
    (doutAt s 0 = .low →
      exec .poll s = .next (transfer (recoverFromTimeout
        { s with
          doutScript := s.doutScript.tail, doutCount := s.doutCount + 1, trace := s.trace ++ [.dout .low] })))

/-- R43, R44, R76, R77, R79: a POLL that finds the chip ready completes, commits the 24 samples most significant first
into the top of `rawSample` with the low byte 0, stamps the clock, leaves the clock line low and the sequencer idle, and
writes no gain, warm-up length, filter or calibration register; it takes 25 data samples and one clock sample. (That the
scratch registers `PCNT` and `XTRA` keep their last values is the model's inference, log 9.) -/
def Obligations.PollTransferCommitsSample : Prop :=
  ∀ s : State, s.sck = .low → doutAt s 0 = .low →
    ∃ t, exec .poll s = .next t ∧
      (∀ k < 24, t.rawSample.getMsbD k = decide (doutAt s (k + 1) = .high)) ∧
      t.rawSample.extractLsb' 0 8 = 0 ∧
      t.cycleStartTime = clockAt s 0 ∧ t.sck = .low ∧ t.phase = .idle ∧
      t.shreg = t.rawSample.extractLsb' 8 24 ∧ t.xtra = s.gainMode ∧ t.pcnt.toNat = 24 + s.gainMode.toNat ∧
      t.tareOffset = s.tareOffset ∧ t.scaleFactor = s.scaleFactor ∧ t.gainMode = s.gainMode ∧
      t.requiredReadCount = s.requiredReadCount ∧ t.smoothingFactor = s.smoothingFactor ∧ t.inputs = s.inputs ∧
      t.doutScript = s.doutScript.drop 25 ∧ t.doutCount = s.doutCount + 25 ∧
      t.clockScript = s.clockScript.drop 1 ∧ t.clockCount = s.clockCount + 1

/-- R27, R76, R78: the events of a transfer, in order: the busy-check sample; 24 data pulses with one sample each while the
clock is high; then the gain pulses of the current mode, without samples. -/
def Obligations.PollTransferTrace : Prop :=
  ∀ (s : State) (g : GainName), s.sck = .low → doutAt s 0 = .low → s.gainMode = g.code →
    ∃ t, exec .poll s = .next t ∧
      t.trace = s.trace ++ [.dout .low] ++ (List.range 24).flatMap (dataPulseEvents s) ++
        (List.replicate g.extraPulses gainPulseEvents).flatten

/-- R75, R80, first case: a transfer that does not finish warm-up is counted, answers (1, 0, 0), and writes neither
`smoothedSample` nor `status` (but for the recovery step). -/
def Obligations.WarmUpTransferIsOnlyCounted : Prop :=
  ∀ s : State, s.sck = .low → doutAt s 0 = .low → pendingAfterRecovery s + 1 < s.requiredReadCount.toNat →
    ∃ t, exec .poll s = .next t ∧ t.pendingReadCount.toNat = pendingAfterRecovery s + 1 ∧
      t.smoothedSample = s.smoothedSample ∧
      t.status = (if s.status = .timedOut then .initializing else s.status) ∧
      t.responses = s.responses ++ [⟨true, false, 0⟩]

/-- R75, R80, second case, and R82: the transfer that reaches the required count seeds `smoothedSample` with the sample
just committed, without blending, sets Valid and answers (1, 1, 0). -/
def Obligations.LastWarmUpTransferSeeds : Prop :=
  ∀ s : State, s.sck = .low → doutAt s 0 = .low → pendingAfterRecovery s + 1 = s.requiredReadCount.toNat →
    ∃ t, exec .poll s = .next t ∧ t.pendingReadCount = s.requiredReadCount ∧ t.smoothedSample = t.rawSample ∧
      t.status = .valid ∧ t.responses = s.responses ++ [⟨true, true, 0⟩]

/-- R75, R80, third case, R81, R82, R97: a transfer after warm-up blends the sample just committed into `smoothedSample`:
the difference divided by 256, truncating toward zero, then multiplied by the factor; sets Valid and answers (1, 1, 0).
(Wrapping: log 12.) -/
def Obligations.TransferAfterWarmUpBlends : Prop :=
  ∀ s : State, s.sck = .low → doutAt s 0 = .low → s.requiredReadCount.toNat ≤ pendingAfterRecovery s →
    ∃ t, exec .poll s = .next t ∧ t.pendingReadCount.toNat = pendingAfterRecovery s ∧
      t.smoothedSample =
        s.smoothedSample +
          BitVec.ofInt 32 ((t.rawSample - s.smoothedSample).toInt.tdiv 256 * (s.smoothingFactor.toNat : Int)) ∧
      t.status = .valid ∧ t.responses = s.responses ++ [⟨true, true, 0⟩]

/-- R77, R105, under the premise `ENV-FRAME` of R20: if the chip frames a conversion result, POLL commits it ×256 and a
GETRAW after it answers the result itself, sign-extended. -/
def Obligations.FramedCountIsReadBack : Prop :=
  ∀ (s : State) (count : BitVec 24), s.sck = .low → doutAt s 0 = .low → EnvFrame s count →
    ∃ t, exec .poll s = .next t ∧ t.rawSample = count ++ (0 : BitVec 8) ∧ t.rawSample.toInt = 256 * count.toInt ∧
      exec .getRaw t = .next
          { t with handshake := .answered, responses := t.responses ++ [⟨true, true, count.signExtend 32⟩] }

/-- R85 to R89: the pulse-level rendering of POLL, one transition for each clock edge, gives exactly the state POLL gives. -/
def Obligations.PulseLevelPollAgrees : Prop :=
  ∀ s : State, s.phase = .idle → exec .poll s = .next (pollByEdges s)

/-- R85, R89: from the start of a transfer, after k transitions, k from none to two for each pulse, no command is accepted
and no response is present or added, k / 2 pulses are complete, and the clock line, low at the start, is high exactly when
k is odd. (That the response of the command before is no longer present is log 16.) -/
def Obligations.NoCommandDuringTransfer : Prop :=
  ∀ (s : State) (k : Nat), s.phase = .idle → k ≤ 2 * (24 + s.gainMode.toNat) →
    cmdReadyO (times k seqStep (transferStart s)) = false ∧
    rspValidO (times k seqStep (transferStart s)) = false ∧
    (times k seqStep (transferStart s)).pcnt.toNat = k / 2 ∧
    (1 ≤ k ∨ s.sck = .low → ((times k seqStep (transferStart s)).sck = .high ↔ k % 2 = 1)) ∧
    (times k seqStep (transferStart s)).responses = s.responses

/-- R94: PWRUP restarts the timeout window. A POLL right after it that finds the chip busy within 500 ms of PWRUP's own
clock sample is incomplete, not timed out, and the status stays Initializing. -/
def Obligations.PowerUpRestartsTimeoutWindow : Prop :=
  ∀ s t : State, exec .pwrUp s = .next t → doutAt s 0 = .high →
    ((clockAt s 1).toNat + 2 ^ 32 - (clockAt s 0).toNat) % 2 ^ 32 ≤ 500 →
    ∃ u, exec .poll t = .next u ∧ u.status = .initializing ∧ u.cycleStartTime = clockAt s 0 ∧
      u.responses = t.responses ++ [⟨true, false, 0⟩]

/-! ### Configuration commands -/

/-- R28, R90, R92, R96, R104, R110, R116: the commands that answer a register as it is, zero-extended, and do nothing
else; with their opcodes, whatever the operand field. -/
def Obligations.GettersAnswerTheirRegister : Prop :=
  ∀ (s : State) (arg : Word),
    (decode (0x02#8 ++ arg) = some .getStatus ∧
      ∀ code, (s.status, code) ∈ [(Status.initializing, 0#32), (.valid, 1#32), (.poweredDown, 2#32), (.timedOut, 3#32)] →
        exec .getStatus s = .next { s with handshake := .answered, responses := s.responses ++ [⟨true, true, code⟩] }) ∧
    (decode (0x05#8 ++ arg) = some .getGain ∧
      exec .getGain s = .next
          { s with handshake := .answered, responses := s.responses ++ [⟨true, true, s.gainMode.setWidth 32⟩] }) ∧
    (decode (0x09#8 ++ arg) = some .getReq ∧
      exec .getReq s = .next
          { s with handshake := .answered, responses := s.responses ++ [⟨true, true, s.requiredReadCount.setWidth 32⟩] }) ∧
    (decode (0x0B#8 ++ arg) = some .getSmf ∧
      exec .getSmf s = .next
          { s with handshake := .answered, responses := s.responses ++ [⟨true, true, s.smoothingFactor.setWidth 32⟩] }) ∧
    (decode (0x15#8 ++ arg) = some .getTare ∧
      exec .getTare s = .next
          { s with handshake := .answered, responses := s.responses ++ [⟨true, true, s.tareOffset⟩] }) ∧
    (decode (0x1B#8 ++ arg) = some .getScale ∧
      exec .getScale s = .next
          { s with handshake := .answered, responses := s.responses ++ [⟨true, true, s.scaleFactor⟩] })

/-- R91: SETGAIN with the code of any of the five modes stores it, sets Initializing and zeroes the warm-up count, from any
status; with any other operand, all 32 bits tested, nothing is written and the answer is (0, 1, 0). That the model executes
the refused form is log 4. -/
def Obligations.SetGainStoresOrRefuses : Prop :=
  (∀ (s : State) (g : GainName), exec (.setGain g.operand) s = .next
    { s with
      gainMode := g.code, status := .initializing, pendingReadCount := 0,
      handshake := .answered, responses := s.responses ++ [⟨true, true, 0⟩] }) ∧
  (∀ arg : Word, 1 ≤ arg.toNat → arg.toNat ≤ 5 → ∃ g : GainName, arg = g.operand) ∧
  (∀ (s : State) (arg : Word), arg.toNat < 1 ∨ 5 < arg.toNat →
    exec (.setGain arg) s = .next { s with handshake := .answered, responses := s.responses ++ [⟨false, true, 0⟩] })

/-- R93: PWRDN drives the clock line high and writes nothing else; `status` is not written. -/
def Obligations.PowerDownDrivesClockHigh : Prop :=
  ∀ (s : State) (arg : Word),
    decode (0x06#8 ++ arg) = some .pwrDn ∧
    exec .pwrDn s = .next
      { s with
        sck := .high, trace := s.trace ++ [.sck .high],
        handshake := .answered, responses := s.responses ++ [⟨true, true, 0⟩] }

/-- R94: PWRUP drives the clock line low, sets Initializing, zeroes the warm-up count and stamps the clock; it writes no
other register. -/
def Obligations.PowerUpRestartsWarmUp : Prop :=
  ∀ (s : State) (arg : Word),
    decode (0x07#8 ++ arg) = some .pwrUp ∧
    exec .pwrUp s = .next
      { s with
        sck := .low, status := .initializing, pendingReadCount := 0, cycleStartTime := clockAt s 0,
        clockScript := s.clockScript.tail, clockCount := s.clockCount + 1, trace := s.trace ++ [.sck .low],
        handshake := .answered, responses := s.responses ++ [⟨true, true, 0⟩] }

/-- R95, R103: SETREQ and SETSMF store the operand modulo 256 in their register and write nothing else. -/
def Obligations.ByteSettersStoreLowByte : Prop :=
  ∀ (s : State) (arg : Word),
    (decode (0x08#8 ++ arg) = some (.setReq arg) ∧
      exec (.setReq arg) s = .next
        { s with
          requiredReadCount := BitVec.ofNat 8 (arg.toNat % 256),
          handshake := .answered, responses := s.responses ++ [⟨true, true, 0⟩] }) ∧
    (decode (0x0A#8 ++ arg) = some (.setSmf arg) ∧
      exec (.setSmf arg) s = .next
        { s with
          smoothingFactor := BitVec.ofNat 8 (arg.toNat % 256),
          handshake := .answered, responses := s.responses ++ [⟨true, true, 0⟩] })

/-! ### Readings and calibration -/

/-- R105, R106: GETRAW and GETSMOOTHED answer the stored value divided by 256, truncating toward zero, and do nothing
else; where the low byte of `rawSample` is 0 the answer is the 24-bit count sign-extended. (That the division truncates, also
outside the filter, is taken as the spec decides: log 12.) -/
def Obligations.ReadingsAreCounts : Prop :=
  ∀ (s : State) (arg : Word),
    decode (0x10#8 ++ arg) = some .getRaw ∧ decode (0x11#8 ++ arg) = some .getSmoothed ∧
    exec .getRaw s = .next
      { s with
        handshake := .answered
        responses := s.responses ++ [⟨true, true, BitVec.ofInt 32 (s.rawSample.toInt.tdiv 256)⟩] } ∧
    exec .getSmoothed s = .next
      { s with
        handshake := .answered
        responses := s.responses ++ [⟨true, true, BitVec.ofInt 32 (s.smoothedSample.toInt.tdiv 256)⟩] } ∧
    (s.rawSample.extractLsb' 0 8 = 0 →
      BitVec.ofInt 32 (s.rawSample.toInt.tdiv 256) = (s.rawSample.extractLsb' 8 24).signExtend 32)

/-- R107, R108, R109: TARE.R, TARE.S and SETTARE store all 32 bits of the raw sample, the smoothed sample and the operand
in `tareOffset` and write nothing else. -/
def Obligations.TareCommandsStoreOffset : Prop :=
  ∀ (s : State) (arg : Word),
    (decode (0x12#8 ++ arg) = some .tareR ∧
      exec .tareR s = .next
          { s with tareOffset := s.rawSample, handshake := .answered, responses := s.responses ++ [⟨true, true, 0⟩] }) ∧
    (decode (0x13#8 ++ arg) = some .tareS ∧
      exec .tareS s = .next
          { s with tareOffset := s.smoothedSample, handshake := .answered, responses := s.responses ++ [⟨true, true, 0⟩] }) ∧
    (decode (0x14#8 ++ arg) = some (.setTare arg) ∧
      exec (.setTare arg) s = .next
          { s with tareOffset := arg, handshake := .answered, responses := s.responses ++ [⟨true, true, 0⟩] })

/-- R111, R112: GETMT answers the wrapped difference of the sample and the tare, divided by 256 toward zero, and does
nothing else; where the true difference fits 32 bits the answer is the exact truncated quotient. (Wrapping: log 12.) -/
def Obligations.TareAdjustedReadings : Prop :=
  ∀ (s : State) (arg : Word),
    decode (0x16#8 ++ arg) = some .getMtR ∧ decode (0x17#8 ++ arg) = some .getMtS ∧
    exec .getMtR s = .next { s with handshake := .answered, responses := s.responses ++
      [⟨true, true, BitVec.ofInt 32 ((s.rawSample - s.tareOffset).toInt.tdiv 256)⟩] } ∧
    exec .getMtS s = .next { s with handshake := .answered, responses := s.responses ++
      [⟨true, true, BitVec.ofInt 32 ((s.smoothedSample - s.tareOffset).toInt.tdiv 256)⟩] } ∧
    ∀ x : Word, -2 ^ 31 ≤ x.toInt - s.tareOffset.toInt → x.toInt - s.tareOffset.toInt ≤ 2 ^ 31 - 1 →
      (BitVec.ofInt 32 ((x - s.tareOffset).toInt.tdiv 256)).toInt = (x.toInt - s.tareOffset.toInt).tdiv 256

/-- R113, R114, C2: ADJ stores in `scaleFactor` the wrapped difference of the sample and the tare divided by the operand,
with both guards (operand 0 stands for 1; quotient 0 is stored as 1), and writes nothing else. (Wrapping: log 12.) -/
def Obligations.AdjustComputesScale : Prop :=
  ∀ (s : State) (value : Word),
    decode (0x18#8 ++ value) = some (.adjR value) ∧ decode (0x19#8 ++ value) = some (.adjS value) ∧
    (∃ q, exec (.adjR value) s = .next
        { s with scaleFactor := q, handshake := .answered, responses := s.responses ++ [⟨true, true, 0⟩] } ∧
      q ≠ 0 ∧
      (let d := (s.rawSample - s.tareOffset).toInt.tdiv (if value = 0 then 1 else value.toInt)
       q = if d = 0 then 1 else BitVec.ofInt 32 d)) ∧
    (∃ q, exec (.adjS value) s = .next
        { s with scaleFactor := q, handshake := .answered, responses := s.responses ++ [⟨true, true, 0⟩] } ∧
      q ≠ 0 ∧
      (let d := (s.smoothedSample - s.tareOffset).toInt.tdiv (if value = 0 then 1 else value.toInt)
       q = if d = 0 then 1 else BitVec.ofInt 32 d))

/-- R115: SETSCALE stores its operand, 0 as 1, and writes nothing else. -/
def Obligations.SetScaleCoercesZero : Prop :=
  ∀ (s : State) (arg : Word),
    decode (0x1A#8 ++ arg) = some (.setScale arg) ∧
    (arg = 0 → exec (.setScale arg) s = .next
      { s with scaleFactor := 1, handshake := .answered, responses := s.responses ++ [⟨true, true, 0⟩] }) ∧
    (arg ≠ 0 → exec (.setScale arg) s = .next
      { s with scaleFactor := arg, handshake := .answered, responses := s.responses ++ [⟨true, true, 0⟩] })

/-- R117, R118: GETADJ answers the wrapped difference of the sample and the tare divided by `scaleFactor`, toward zero, with
no division by 256, and does nothing else. (In the unreachable states with `scaleFactor` = 0 it still completes; log 6.)
(Wrapping: log 12.) -/
def Obligations.ScaledReadings : Prop :=
  ∀ (s : State) (arg : Word),
    decode (0x1C#8 ++ arg) = some .getAdjR ∧ decode (0x1D#8 ++ arg) = some .getAdjS ∧
    (∃ d, exec .getAdjR s = .next { s with handshake := .answered, responses := s.responses ++ [⟨true, true, d⟩] } ∧
      (s.scaleFactor ≠ 0 → d = BitVec.ofInt 32 ((s.rawSample - s.tareOffset).toInt.tdiv s.scaleFactor.toInt))) ∧
    (∃ d, exec .getAdjS s = .next { s with handshake := .answered, responses := s.responses ++ [⟨true, true, d⟩] } ∧
      (s.scaleFactor ≠ 0 → d = BitVec.ofInt 32 ((s.smoothedSample - s.tareOffset).toInt.tdiv s.scaleFactor.toInt)))

/-! ### Arithmetic -/

/-- R63, R64: `sub32` and `add32` are subtraction and addition modulo 2^32; where the mathematical result fits they equal
it, and otherwise they differ from it by exactly 2^32. (The wrapping is taken as the spec decides: log 12.) -/
def Obligations.SubtractionAndAdditionWrap : Prop :=
  ∀ a b : Word,
    (sub32 a b).toNat = (a.toNat + (2 ^ 32 - b.toNat)) % 2 ^ 32 ∧
    (add32 a b).toNat = (a.toNat + b.toNat) % 2 ^ 32 ∧
    (-2 ^ 31 ≤ a.toInt - b.toInt → a.toInt - b.toInt ≤ 2 ^ 31 - 1 → (sub32 a b).toInt = a.toInt - b.toInt) ∧
    (a.toInt - b.toInt < -2 ^ 31 → (sub32 a b).toInt = a.toInt - b.toInt + 2 ^ 32) ∧
    (2 ^ 31 - 1 < a.toInt - b.toInt → (sub32 a b).toInt = a.toInt - b.toInt - 2 ^ 32) ∧
    (-2 ^ 31 ≤ a.toInt + b.toInt → a.toInt + b.toInt ≤ 2 ^ 31 - 1 → (add32 a b).toInt = a.toInt + b.toInt) ∧
    (a.toInt + b.toInt < -2 ^ 31 → (add32 a b).toInt = a.toInt + b.toInt + 2 ^ 32) ∧
    (2 ^ 31 - 1 < a.toInt + b.toInt → (add32 a b).toInt = a.toInt + b.toInt - 2 ^ 32)

/-- R66: `sdiv32` truncates toward zero: the magnitude is the floor of the quotient of the magnitudes, and the result is
negative exactly when the operands' signs differ and it is not 0; the one overflow, -2^31 by -1, gives -2^31.
(The overflow is taken as the spec decides: log 12.) -/
def Obligations.DivisionTruncatesTowardZero : Prop :=
  ∀ a b : Word, b ≠ 0 →
    (¬(a.toInt = -2 ^ 31 ∧ b.toInt = -1) →
      (sdiv32 a b).toInt.natAbs = a.toInt.natAbs / b.toInt.natAbs ∧
      ((sdiv32 a b).toInt < 0 ↔ (a.toInt < 0 ∧ 0 < b.toInt ∨ 0 < a.toInt ∧ b.toInt < 0) ∧ (sdiv32 a b).toInt ≠ 0)) ∧
    (a.toInt = -2 ^ 31 ∧ b.toInt = -1 → (sdiv32 a b).toInt = -2 ^ 31)

/-- R67: dividing by 256 is the biased arithmetic shift of a 33-bit intermediate, and so not a plain shift. -/
def Obligations.DivideBy256IsBiasedShift : Prop :=
  ∀ x : Word,
    sdiv32 x 256 =
      ((x.signExtend 33 + (if x.msb then 255#33 else 0#33)).sshiftRight 8).setWidth 32 ∧
    (x.msb = true → x.extractLsb' 0 8 ≠ 0 → (sdiv32 x 256).toInt = (x.sshiftRight 8).toInt + 1)

/-- R65: a quotient by 256 times a factor never overflows 32 bits. -/
def Obligations.QuotientTimesFactorFits : Prop :=
  ∀ (x : Word) (f : Byte),
    (mul32 (sdiv32 x 256) f).toInt = (sdiv32 x 256).toInt * (f.toNat : Int) ∧
    -2139095040 ≤ (mul32 (sdiv32 x 256) f).toInt ∧ (mul32 (sdiv32 x 256) f).toInt ≤ 2139094785

/-- R98: the filter's fixed point. -/
def Obligations.SmoothFixedPoint : Prop :=
  ∀ (r : Word) (f : Byte), smooth r r f = r

/-- R99: factor 0 freezes the filter; with factor 255 the distance left is between `floor(|d| / 256)` and that plus 255,
where nothing wraps. -/
def Obligations.SmoothFrozenAndFullFactor : Prop :=
  ∀ s r : Word, smooth s r 0 = s ∧
    (-2 ^ 31 ≤ r.toInt - s.toInt → r.toInt - s.toInt ≤ 2 ^ 31 - 1 →
      (r.toInt - s.toInt).natAbs / 256 ≤ (r.toInt - (smooth s r 255).toInt).natAbs ∧
      (r.toInt - (smooth s r 255).toInt).natAbs ≤ (r.toInt - s.toInt).natAbs / 256 + 255)

/-- R100: the dead band: within one count of the input the filter does not move. -/
def Obligations.SmoothDeadBand : Prop :=
  ∀ (s r : Word) (f : Byte), (r.toInt - s.toInt).natAbs < 256 → smooth s r f = s

/-- R101, first case: where the difference fits, the result lies between the accumulator and the input. -/
def Obligations.SmoothNeverOvershoots : Prop :=
  ∀ (s r : Word) (f : Byte),
    (s.toInt ≤ r.toInt → r.toInt - s.toInt ≤ 2 ^ 31 - 1 →
      s.toInt ≤ (smooth s r f).toInt ∧ (smooth s r f).toInt ≤ r.toInt) ∧
    (r.toInt ≤ s.toInt → -2 ^ 31 ≤ r.toInt - s.toInt →
      r.toInt ≤ (smooth s r f).toInt ∧ (smooth s r f).toInt ≤ s.toInt)

/-- R101, second case: where the difference does not fit, the step never has its sign: the filter never moves toward the
input. (Wrapping: log 12.) -/
def Obligations.SmoothWrapsAwayFromInput : Prop :=
  ∀ (s r : Word) (f : Byte),
    (2 ^ 31 - 1 < r.toInt - s.toInt → (smoothStep s r f).toInt ≤ 0) ∧
    (r.toInt - s.toInt < -2 ^ 31 → 0 ≤ (smoothStep s r f).toInt)

/-! ### The command port -/

/-- R9, R10: whatever command runs was presented. A ready block with `cmd_valid_i` = 0 does nothing unless it is reset; and a
POLL that reset cuts short (an input item, log 8) stands on `cmd_i` as a word that decodes to POLL. (That the block waits:
log 2.) -/
def Obligations.NothingRunsUnlessPresented : Prop :=
  (∀ s : State, cmdReadyO s = true → cmdValidI s = false → (∀ rest, s.inputs ≠ .reset :: rest) → step s = .next s) ∧
  (∀ (s : State) (edges : Nat) (rest : List Input), s.inputs = .pollCutByReset edges :: rest →
    cmdValidI s = true ∧ ∃ w, cmdI s = some w ∧ decode w = some .poll) ∧
  ∀ (s : State) (w : CommandWord) (rest : List Input), s.inputs = .command w :: rest →
    cmdValidI s = true ∧ cmdI s = some w
end

