-- ==== Sys2Proof/Laws/Arith.lean ====
section
/-! SUPPORT. What the arithmetic functions compute, as facts about integers (40_arithmetic.md, 43_filter.md). -/

namespace Sys2Proof.Machine

theorem sub32_eq (a b : Word) : sub32 a b = a - b := by
  apply BitVec.eq_of_toInt_eq
  simp [sub32, BitVec.toInt_sub]

theorem add32_eq (a b : Word) : add32 a b = a + b := by
  apply BitVec.eq_of_toInt_eq
  simp [add32, BitVec.toInt_add]

/-- An integer that fits 32 bits is what its narrowing reads as. -/
theorem toInt_ofInt_fits {z : Int} (lo : -2 ^ 31 ≤ z) (hi : z ≤ 2 ^ 31 - 1) : (BitVec.ofInt 32 z).toInt = z := by
  rw [BitVec.toInt_ofInt]
  apply Int.bmod_eq_of_le <;> omega

/-- A word is the narrowing of the integer it reads as. -/
theorem word_toInt_bounds (x : Word) : -2 ^ 31 ≤ x.toInt ∧ x.toInt ≤ 2 ^ 31 - 1 := by
  have h1 := x.le_toInt
  have h2 := x.toInt_lt
  omega

theorem sub32_toInt_fits {a b : Word} (lo : -2 ^ 31 ≤ a.toInt - b.toInt) (hi : a.toInt - b.toInt ≤ 2 ^ 31 - 1) :
    (sub32 a b).toInt = a.toInt - b.toInt := toInt_ofInt_fits lo hi

/-- A difference that does not fit wraps by exactly 2^32 (R63). -/
theorem sub32_toInt_below {a b : Word} (h : a.toInt - b.toInt < -2 ^ 31) :
    (sub32 a b).toInt = a.toInt - b.toInt + 2 ^ 32 := by
  have := word_toInt_bounds a
  have := word_toInt_bounds b
  rw [sub32, BitVec.toInt_ofInt, Int.bmod_def]
  omega

theorem sub32_toInt_above {a b : Word} (h : 2 ^ 31 - 1 < a.toInt - b.toInt) :
    (sub32 a b).toInt = a.toInt - b.toInt - 2 ^ 32 := by
  have := word_toInt_bounds a
  have := word_toInt_bounds b
  rw [sub32, BitVec.toInt_ofInt, Int.bmod_def]
  omega

/-- Truncated division as its two floor cases. -/
theorem tdiv_cases (z n : Int) :
    (0 ≤ z ∧ z.tdiv n = z / n) ∨ (z < 0 ∧ z.tdiv n = -(-z / n)) := by
  rcases Int.lt_or_le z 0 with h | h
  · right
    refine ⟨h, ?_⟩
    conv_lhs => rw [← Int.neg_neg z, Int.neg_tdiv]
    rw [Int.tdiv_eq_ediv_of_nonneg (by omega)]
  · left
    exact ⟨h, Int.tdiv_eq_ediv_of_nonneg h⟩

/-- The division by a nonzero divisor, without the guard (R66). -/
theorem sdiv32_of_ne_zero (a : Word) {b : Word} (hb : b ≠ 0) :
    sdiv32 a b = BitVec.ofInt 32 (a.toInt.tdiv b.toInt) := by
  rw [sdiv32, if_neg hb]

theorem sdiv32_256 (x : Word) : sdiv32 x 256 = BitVec.ofInt 32 (x.toInt.tdiv 256) :=
  sdiv32_of_ne_zero x (by decide)

/-- A quotient by 256 is a 24-bit number (R67). -/
theorem tdiv_256_bounds (x : Word) : -8388608 ≤ x.toInt.tdiv 256 ∧ x.toInt.tdiv 256 ≤ 8388607 := by
  have hx := word_toInt_bounds x
  have := tdiv_cases x.toInt 256
  omega

theorem sdiv32_256_toInt (x : Word) : (sdiv32 x 256).toInt = x.toInt.tdiv 256 := by
  have := tdiv_256_bounds x
  rw [sdiv32_256, toInt_ofInt_fits] <;> omega

/-- A 24-bit number times a factor fits 32 bits (R65). -/
theorem factor_product_bounds {q : Int} (lo : -8388608 ≤ q) (hi : q ≤ 8388607) (f : Byte) :
    -2139095040 ≤ q * (f.toNat : Int) ∧ q * (f.toNat : Int) ≤ 2139094785 := by
  have hf : (f.toNat : Int) ≤ 255 := by have := f.isLt; omega
  have h0 : (0 : Int) ≤ f.toNat := by omega
  constructor <;> nlinarith

/-- The filter's step, as an integer: it never overflows (R65, R97). -/
theorem smoothStep_toInt (s r : Word) (f : Byte) :
    (smoothStep s r f).toInt = (sub32 r s).toInt.tdiv 256 * (f.toNat : Int) := by
  have hq := tdiv_256_bounds (sub32 r s)
  have hp := factor_product_bounds hq.1 hq.2 f
  rw [smoothStep, fracUnit, mul32, sdiv32_256_toInt, toInt_ofInt_fits] <;> omega

/-- The magnitude of the filter's step is below the distance, where nothing wraps (R101). -/
theorem step_between (d : Int) (f : Byte) :
    (0 ≤ d → 0 ≤ d.tdiv 256 * (f.toNat : Int) ∧ d.tdiv 256 * (f.toNat : Int) ≤ d) ∧
    (d ≤ 0 → d ≤ d.tdiv 256 * (f.toNat : Int) ∧ d.tdiv 256 * (f.toNat : Int) ≤ 0) := by
  have hf : (f.toNat : Int) ≤ 255 := by have := f.isLt; omega
  have h0 : (0 : Int) ≤ f.toNat := by omega
  have hd := tdiv_cases d 256
  generalize d.tdiv 256 = q at hd
  constructor
  · intro h
    have : 0 ≤ q ∧ 256 * q ≤ d := by omega
    constructor <;> nlinarith
  · intro h
    have : q ≤ 0 ∧ d ≤ 256 * q := by omega
    constructor <;> nlinarith

theorem zeroToOne_ne_zero (v : Word) : zeroToOne v ≠ 0 := by
  unfold zeroToOne
  split
  · decide
  · assumption

theorem zeroToOne_toInt (v : Word) : (zeroToOne v).toInt = if v = 0 then 1 else v.toInt := by
  unfold zeroToOne
  split <;> simp

/-- Where the difference fits, the filter's result is exact (R101). -/
theorem smooth_toInt_fits {s r : Word} (f : Byte) (lo : -2 ^ 31 ≤ r.toInt - s.toInt)
    (hi : r.toInt - s.toInt ≤ 2 ^ 31 - 1) :
    (smooth s r f).toInt = s.toInt + (r.toInt - s.toInt).tdiv 256 * (f.toNat : Int) := by
  have h := step_between (r.toInt - s.toInt) f
  have hr := word_toInt_bounds r
  have hs := word_toInt_bounds s
  rw [smooth, add32, smoothStep_toInt, sub32_toInt_fits lo hi]
  rcases Int.le_total 0 (r.toInt - s.toInt) with h0 | h0
  · have := h.1 h0
    apply toInt_ofInt_fits <;> omega
  · have := h.2 h0
    apply toInt_ofInt_fits <;> omega

/-- A step of 0 leaves the accumulator. -/
theorem smooth_of_step_zero {s r : Word} {f : Byte} (h : (smoothStep s r f).toInt = 0) : smooth s r f = s := by
  have h0 : smoothStep s r f = 0 := BitVec.eq_of_toInt_eq (by simpa using h)
  rw [smooth, h0, add32_eq]
  simp

/-- ADJ's quotient with both guards, on integers (R113). -/
theorem guarded_quotient (d v : Word) :
    zeroToOne (sdiv32 d (zeroToOne v)) =
      if d.toInt.tdiv (if v = 0 then 1 else v.toInt) = 0 then 1
      else BitVec.ofInt 32 (d.toInt.tdiv (if v = 0 then 1 else v.toInt)) := by
  rw [sdiv32_of_ne_zero _ (zeroToOne_ne_zero v), zeroToOne_toInt]
  generalize hz : d.toInt.tdiv (if v = 0 then 1 else v.toInt) = z
  have hb : -2 ^ 31 ≤ z ∧ z ≤ 2 ^ 31 := by
    have h1 := word_toInt_bounds d
    have h2 : z.natAbs ≤ d.toInt.natAbs := by
      rw [← hz, Int.natAbs_tdiv]
      exact Nat.div_le_self _ _
    omega
  have h0 : BitVec.ofInt 32 z = 0 ↔ z = 0 := by
    constructor
    · intro h
      have h' := congrArg BitVec.toInt h
      rw [BitVec.toInt_ofInt, Int.bmod_def] at h'
      simp at h'
      omega
    · rintro rfl
      rfl
  unfold zeroToOne
  simp only [h0]

end Sys2Proof.Machine
end

