-- ==== Sys2Proof/Laws/Decode.lean ====
section
/-! SUPPORT. The fields of a command word, and what the decoder reads from one. -/

namespace Sys2Proof

@[simp] theorem opField_append (op : BitVec 8) (arg : Word) : opField (op ++ arg) = op := by
  ext i h
  simp only [opField, BitVec.getElem_extractLsb', BitVec.getLsbD_append]
  simp [show ¬(32 + i < 32) by omega, BitVec.getLsbD_eq_getElem h]

@[simp] theorem argField_append (op : BitVec 8) (arg : Word) : argField (op ++ arg) = arg := by
  ext i h
  simp only [argField, BitVec.getElem_extractLsb', BitVec.getLsbD_append]
  simp [h]

/-- A command word is its two fields side by side (R54). -/
theorem opField_append_argField (w : CommandWord) : opField w ++ argField w = w := by
  ext i h
  simp only [opField, argField, BitVec.getElem_append, BitVec.getElem_extractLsb']
  split
  · simp [BitVec.getLsbD_eq_getElem h]
  · rename_i h'
    simp [show 32 + (i - 32) = i by omega, BitVec.getLsbD_eq_getElem h]

/-- The decoder sees a command word through its two fields only. -/
@[simp] theorem decode_append (op : BitVec 8) (arg : Word) : decode (op ++ arg) = decodeFields op arg := by
  simp [decode]

@[simp] theorem opField_encode (i : Instr) : opField (encode i) = opcode i := opField_append _ _

@[simp] theorem argField_encode (i : Instr) : argField (encode i) = operandOf i := argField_append _ _

/-- Everything the decoder can answer: the opcode of the command, and its operand field where it uses it. -/
theorem decodeFields_some {op : BitVec 8} {arg : Word} {i : Instr} (h : decodeFields op arg = some i) :
    op = opcode i ∧ (usesOperand i = true → arg = operandOf i) := by
  unfold decodeFields at h
  split at h <;> first | (cases h; exact ⟨rfl, by simp [usesOperand, operandOf]⟩) | cases h

/-- A word that numbers a command word decodes as that command word does. -/
theorem commandOfNat_toNat (w : CommandWord) : commandOfNat 40 w.toNat = w := by
  simp [commandOfNat, Nat.mod_eq_of_lt w.isLt]

end Sys2Proof
end

