-- ==== Sys2Proof/Laws/PerInstr.lean ====
section
/-! SUPPORT. Statements made for each command by itself, for the host's case split. -/

namespace Sys2Proof.Laws

/-- The fields of a command's encoding decode to the command (R54, R58). -/
def RoundTrip.Statement (i : Instr) : Prop := decodeFields (opcode i) (operandOf i) = some i

theorem RoundTrip.poll : RoundTrip.Statement .poll := rfl
theorem RoundTrip.getStatus : RoundTrip.Statement .getStatus := rfl
theorem RoundTrip.setGain (arg : Word) : RoundTrip.Statement (.setGain arg) := rfl
theorem RoundTrip.getGain : RoundTrip.Statement .getGain := rfl
theorem RoundTrip.pwrDn : RoundTrip.Statement .pwrDn := rfl
theorem RoundTrip.pwrUp : RoundTrip.Statement .pwrUp := rfl
theorem RoundTrip.setReq (arg : Word) : RoundTrip.Statement (.setReq arg) := rfl
theorem RoundTrip.getReq : RoundTrip.Statement .getReq := rfl
theorem RoundTrip.setSmf (arg : Word) : RoundTrip.Statement (.setSmf arg) := rfl
theorem RoundTrip.getSmf : RoundTrip.Statement .getSmf := rfl
theorem RoundTrip.getRaw : RoundTrip.Statement .getRaw := rfl
theorem RoundTrip.getSmoothed : RoundTrip.Statement .getSmoothed := rfl
theorem RoundTrip.tareR : RoundTrip.Statement .tareR := rfl
theorem RoundTrip.tareS : RoundTrip.Statement .tareS := rfl
theorem RoundTrip.setTare (arg : Word) : RoundTrip.Statement (.setTare arg) := rfl
theorem RoundTrip.getTare : RoundTrip.Statement .getTare := rfl
theorem RoundTrip.getMtR : RoundTrip.Statement .getMtR := rfl
theorem RoundTrip.getMtS : RoundTrip.Statement .getMtS := rfl
theorem RoundTrip.adjR (arg : Word) : RoundTrip.Statement (.adjR arg) := rfl
theorem RoundTrip.adjS (arg : Word) : RoundTrip.Statement (.adjS arg) := rfl
theorem RoundTrip.setScale (arg : Word) : RoundTrip.Statement (.setScale arg) := rfl
theorem RoundTrip.getScale : RoundTrip.Statement .getScale := rfl
theorem RoundTrip.getAdjR : RoundTrip.Statement .getAdjR := rfl
theorem RoundTrip.getAdjS : RoundTrip.Statement .getAdjS := rfl

end Sys2Proof.Laws
end

