-- ==== Sys2Proof/Laws/State.lean ====
section
/-! SUPPORT. One lemma for each field and each shared update of the state, so that no proof unfolds an update; and how
the samples still to come move with each update. -/

namespace Sys2Proof.Machine

variable (s : State)

/-! ### `setInputs` -/

@[simp] theorem setInputs_rawSample (rest : List Input) : (setInputs rest s).rawSample = s.rawSample := rfl
@[simp] theorem setInputs_smoothedSample (rest : List Input) : (setInputs rest s).smoothedSample = s.smoothedSample := rfl
@[simp] theorem setInputs_tareOffset (rest : List Input) : (setInputs rest s).tareOffset = s.tareOffset := rfl
@[simp] theorem setInputs_scaleFactor (rest : List Input) : (setInputs rest s).scaleFactor = s.scaleFactor := rfl
@[simp] theorem setInputs_gainMode (rest : List Input) : (setInputs rest s).gainMode = s.gainMode := rfl
@[simp] theorem setInputs_status (rest : List Input) : (setInputs rest s).status = s.status := rfl
@[simp] theorem setInputs_requiredReadCount (rest : List Input) : (setInputs rest s).requiredReadCount = s.requiredReadCount := rfl
@[simp] theorem setInputs_smoothingFactor (rest : List Input) : (setInputs rest s).smoothingFactor = s.smoothingFactor := rfl
@[simp] theorem setInputs_pendingReadCount (rest : List Input) : (setInputs rest s).pendingReadCount = s.pendingReadCount := rfl
@[simp] theorem setInputs_cycleStartTime (rest : List Input) : (setInputs rest s).cycleStartTime = s.cycleStartTime := rfl
@[simp] theorem setInputs_sck (rest : List Input) : (setInputs rest s).sck = s.sck := rfl
@[simp] theorem setInputs_shreg (rest : List Input) : (setInputs rest s).shreg = s.shreg := rfl
@[simp] theorem setInputs_pcnt (rest : List Input) : (setInputs rest s).pcnt = s.pcnt := rfl
@[simp] theorem setInputs_phase (rest : List Input) : (setInputs rest s).phase = s.phase := rfl
@[simp] theorem setInputs_xtra (rest : List Input) : (setInputs rest s).xtra = s.xtra := rfl
@[simp] theorem setInputs_inputs (rest : List Input) : (setInputs rest s).inputs = rest := rfl
@[simp] theorem setInputs_handshake (rest : List Input) : (setInputs rest s).handshake = s.handshake := rfl
@[simp] theorem setInputs_doutScript (rest : List Input) : (setInputs rest s).doutScript = s.doutScript := rfl
@[simp] theorem setInputs_clockScript (rest : List Input) : (setInputs rest s).clockScript = s.clockScript := rfl
@[simp] theorem setInputs_doutCount (rest : List Input) : (setInputs rest s).doutCount = s.doutCount := rfl
@[simp] theorem setInputs_clockCount (rest : List Input) : (setInputs rest s).clockCount = s.clockCount := rfl
@[simp] theorem setInputs_responses (rest : List Input) : (setInputs rest s).responses = s.responses := rfl
@[simp] theorem setInputs_trace (rest : List Input) : (setInputs rest s).trace = s.trace := rfl

/-! ### `accept` -/

@[simp] theorem accept_rawSample (rest : List Input) : (accept rest s).rawSample = s.rawSample := rfl
@[simp] theorem accept_smoothedSample (rest : List Input) : (accept rest s).smoothedSample = s.smoothedSample := rfl
@[simp] theorem accept_tareOffset (rest : List Input) : (accept rest s).tareOffset = s.tareOffset := rfl
@[simp] theorem accept_scaleFactor (rest : List Input) : (accept rest s).scaleFactor = s.scaleFactor := rfl
@[simp] theorem accept_gainMode (rest : List Input) : (accept rest s).gainMode = s.gainMode := rfl
@[simp] theorem accept_status (rest : List Input) : (accept rest s).status = s.status := rfl
@[simp] theorem accept_requiredReadCount (rest : List Input) : (accept rest s).requiredReadCount = s.requiredReadCount := rfl
@[simp] theorem accept_smoothingFactor (rest : List Input) : (accept rest s).smoothingFactor = s.smoothingFactor := rfl
@[simp] theorem accept_pendingReadCount (rest : List Input) : (accept rest s).pendingReadCount = s.pendingReadCount := rfl
@[simp] theorem accept_cycleStartTime (rest : List Input) : (accept rest s).cycleStartTime = s.cycleStartTime := rfl
@[simp] theorem accept_sck (rest : List Input) : (accept rest s).sck = s.sck := rfl
@[simp] theorem accept_shreg (rest : List Input) : (accept rest s).shreg = s.shreg := rfl
@[simp] theorem accept_pcnt (rest : List Input) : (accept rest s).pcnt = s.pcnt := rfl
@[simp] theorem accept_phase (rest : List Input) : (accept rest s).phase = s.phase := rfl
@[simp] theorem accept_xtra (rest : List Input) : (accept rest s).xtra = s.xtra := rfl
@[simp] theorem accept_inputs (rest : List Input) : (accept rest s).inputs = rest := rfl
@[simp] theorem accept_handshake (rest : List Input) : (accept rest s).handshake = .executing := rfl
@[simp] theorem accept_doutScript (rest : List Input) : (accept rest s).doutScript = s.doutScript := rfl
@[simp] theorem accept_clockScript (rest : List Input) : (accept rest s).clockScript = s.clockScript := rfl
@[simp] theorem accept_doutCount (rest : List Input) : (accept rest s).doutCount = s.doutCount := rfl
@[simp] theorem accept_clockCount (rest : List Input) : (accept rest s).clockCount = s.clockCount := rfl
@[simp] theorem accept_responses (rest : List Input) : (accept rest s).responses = s.responses := rfl
@[simp] theorem accept_trace (rest : List Input) : (accept rest s).trace = s.trace := rfl

/-! ### `sckWrite` -/

@[simp] theorem sckWrite_rawSample (l : Level) : (sckWrite l s).rawSample = s.rawSample := rfl
@[simp] theorem sckWrite_smoothedSample (l : Level) : (sckWrite l s).smoothedSample = s.smoothedSample := rfl
@[simp] theorem sckWrite_tareOffset (l : Level) : (sckWrite l s).tareOffset = s.tareOffset := rfl
@[simp] theorem sckWrite_scaleFactor (l : Level) : (sckWrite l s).scaleFactor = s.scaleFactor := rfl
@[simp] theorem sckWrite_gainMode (l : Level) : (sckWrite l s).gainMode = s.gainMode := rfl
@[simp] theorem sckWrite_status (l : Level) : (sckWrite l s).status = s.status := rfl
@[simp] theorem sckWrite_requiredReadCount (l : Level) : (sckWrite l s).requiredReadCount = s.requiredReadCount := rfl
@[simp] theorem sckWrite_smoothingFactor (l : Level) : (sckWrite l s).smoothingFactor = s.smoothingFactor := rfl
@[simp] theorem sckWrite_pendingReadCount (l : Level) : (sckWrite l s).pendingReadCount = s.pendingReadCount := rfl
@[simp] theorem sckWrite_cycleStartTime (l : Level) : (sckWrite l s).cycleStartTime = s.cycleStartTime := rfl
@[simp] theorem sckWrite_sck (l : Level) : (sckWrite l s).sck = l := rfl
@[simp] theorem sckWrite_shreg (l : Level) : (sckWrite l s).shreg = s.shreg := rfl
@[simp] theorem sckWrite_pcnt (l : Level) : (sckWrite l s).pcnt = s.pcnt := rfl
@[simp] theorem sckWrite_phase (l : Level) : (sckWrite l s).phase = s.phase := rfl
@[simp] theorem sckWrite_xtra (l : Level) : (sckWrite l s).xtra = s.xtra := rfl
@[simp] theorem sckWrite_inputs (l : Level) : (sckWrite l s).inputs = s.inputs := rfl
@[simp] theorem sckWrite_handshake (l : Level) : (sckWrite l s).handshake = s.handshake := rfl
@[simp] theorem sckWrite_doutScript (l : Level) : (sckWrite l s).doutScript = s.doutScript := rfl
@[simp] theorem sckWrite_clockScript (l : Level) : (sckWrite l s).clockScript = s.clockScript := rfl
@[simp] theorem sckWrite_doutCount (l : Level) : (sckWrite l s).doutCount = s.doutCount := rfl
@[simp] theorem sckWrite_clockCount (l : Level) : (sckWrite l s).clockCount = s.clockCount := rfl
@[simp] theorem sckWrite_responses (l : Level) : (sckWrite l s).responses = s.responses := rfl
@[simp] theorem sckWrite_trace (l : Level) : (sckWrite l s).trace = s.trace ++ [.sck l] := rfl

/-! ### `doutTake` -/

@[simp] theorem doutTake_rawSample : (doutTake s).rawSample = s.rawSample := rfl
@[simp] theorem doutTake_smoothedSample : (doutTake s).smoothedSample = s.smoothedSample := rfl
@[simp] theorem doutTake_tareOffset : (doutTake s).tareOffset = s.tareOffset := rfl
@[simp] theorem doutTake_scaleFactor : (doutTake s).scaleFactor = s.scaleFactor := rfl
@[simp] theorem doutTake_gainMode : (doutTake s).gainMode = s.gainMode := rfl
@[simp] theorem doutTake_status : (doutTake s).status = s.status := rfl
@[simp] theorem doutTake_requiredReadCount : (doutTake s).requiredReadCount = s.requiredReadCount := rfl
@[simp] theorem doutTake_smoothingFactor : (doutTake s).smoothingFactor = s.smoothingFactor := rfl
@[simp] theorem doutTake_pendingReadCount : (doutTake s).pendingReadCount = s.pendingReadCount := rfl
@[simp] theorem doutTake_cycleStartTime : (doutTake s).cycleStartTime = s.cycleStartTime := rfl
@[simp] theorem doutTake_sck : (doutTake s).sck = s.sck := rfl
@[simp] theorem doutTake_shreg : (doutTake s).shreg = s.shreg := rfl
@[simp] theorem doutTake_pcnt : (doutTake s).pcnt = s.pcnt := rfl
@[simp] theorem doutTake_phase : (doutTake s).phase = s.phase := rfl
@[simp] theorem doutTake_xtra : (doutTake s).xtra = s.xtra := rfl
@[simp] theorem doutTake_inputs : (doutTake s).inputs = s.inputs := rfl
@[simp] theorem doutTake_handshake : (doutTake s).handshake = s.handshake := rfl
@[simp] theorem doutTake_doutScript : (doutTake s).doutScript = s.doutScript.tail := rfl
@[simp] theorem doutTake_clockScript : (doutTake s).clockScript = s.clockScript := rfl
@[simp] theorem doutTake_doutCount : (doutTake s).doutCount = s.doutCount + 1 := rfl
@[simp] theorem doutTake_clockCount : (doutTake s).clockCount = s.clockCount := rfl
@[simp] theorem doutTake_responses : (doutTake s).responses = s.responses := rfl
@[simp] theorem doutTake_trace : (doutTake s).trace = s.trace ++ [.dout (doutSample s)] := rfl

/-! ### `nowTake` -/

@[simp] theorem nowTake_rawSample : (nowTake s).rawSample = s.rawSample := rfl
@[simp] theorem nowTake_smoothedSample : (nowTake s).smoothedSample = s.smoothedSample := rfl
@[simp] theorem nowTake_tareOffset : (nowTake s).tareOffset = s.tareOffset := rfl
@[simp] theorem nowTake_scaleFactor : (nowTake s).scaleFactor = s.scaleFactor := rfl
@[simp] theorem nowTake_gainMode : (nowTake s).gainMode = s.gainMode := rfl
@[simp] theorem nowTake_status : (nowTake s).status = s.status := rfl
@[simp] theorem nowTake_requiredReadCount : (nowTake s).requiredReadCount = s.requiredReadCount := rfl
@[simp] theorem nowTake_smoothingFactor : (nowTake s).smoothingFactor = s.smoothingFactor := rfl
@[simp] theorem nowTake_pendingReadCount : (nowTake s).pendingReadCount = s.pendingReadCount := rfl
@[simp] theorem nowTake_cycleStartTime : (nowTake s).cycleStartTime = s.cycleStartTime := rfl
@[simp] theorem nowTake_sck : (nowTake s).sck = s.sck := rfl
@[simp] theorem nowTake_shreg : (nowTake s).shreg = s.shreg := rfl
@[simp] theorem nowTake_pcnt : (nowTake s).pcnt = s.pcnt := rfl
@[simp] theorem nowTake_phase : (nowTake s).phase = s.phase := rfl
@[simp] theorem nowTake_xtra : (nowTake s).xtra = s.xtra := rfl
@[simp] theorem nowTake_inputs : (nowTake s).inputs = s.inputs := rfl
@[simp] theorem nowTake_handshake : (nowTake s).handshake = s.handshake := rfl
@[simp] theorem nowTake_doutScript : (nowTake s).doutScript = s.doutScript := rfl
@[simp] theorem nowTake_clockScript : (nowTake s).clockScript = s.clockScript.tail := rfl
@[simp] theorem nowTake_doutCount : (nowTake s).doutCount = s.doutCount := rfl
@[simp] theorem nowTake_clockCount : (nowTake s).clockCount = s.clockCount + 1 := rfl
@[simp] theorem nowTake_responses : (nowTake s).responses = s.responses := rfl
@[simp] theorem nowTake_trace : (nowTake s).trace = s.trace := rfl

/-! ### `respond` -/

@[simp] theorem respond_rawSample (ok done : Bool) (data : Word) : (respond ok done data s).rawSample = s.rawSample := rfl
@[simp] theorem respond_smoothedSample (ok done : Bool) (data : Word) : (respond ok done data s).smoothedSample = s.smoothedSample := rfl
@[simp] theorem respond_tareOffset (ok done : Bool) (data : Word) : (respond ok done data s).tareOffset = s.tareOffset := rfl
@[simp] theorem respond_scaleFactor (ok done : Bool) (data : Word) : (respond ok done data s).scaleFactor = s.scaleFactor := rfl
@[simp] theorem respond_gainMode (ok done : Bool) (data : Word) : (respond ok done data s).gainMode = s.gainMode := rfl
@[simp] theorem respond_status (ok done : Bool) (data : Word) : (respond ok done data s).status = s.status := rfl
@[simp] theorem respond_requiredReadCount (ok done : Bool) (data : Word) : (respond ok done data s).requiredReadCount = s.requiredReadCount := rfl
@[simp] theorem respond_smoothingFactor (ok done : Bool) (data : Word) : (respond ok done data s).smoothingFactor = s.smoothingFactor := rfl
@[simp] theorem respond_pendingReadCount (ok done : Bool) (data : Word) : (respond ok done data s).pendingReadCount = s.pendingReadCount := rfl
@[simp] theorem respond_cycleStartTime (ok done : Bool) (data : Word) : (respond ok done data s).cycleStartTime = s.cycleStartTime := rfl
@[simp] theorem respond_sck (ok done : Bool) (data : Word) : (respond ok done data s).sck = s.sck := rfl
@[simp] theorem respond_shreg (ok done : Bool) (data : Word) : (respond ok done data s).shreg = s.shreg := rfl
@[simp] theorem respond_pcnt (ok done : Bool) (data : Word) : (respond ok done data s).pcnt = s.pcnt := rfl
@[simp] theorem respond_phase (ok done : Bool) (data : Word) : (respond ok done data s).phase = s.phase := rfl
@[simp] theorem respond_xtra (ok done : Bool) (data : Word) : (respond ok done data s).xtra = s.xtra := rfl
@[simp] theorem respond_inputs (ok done : Bool) (data : Word) : (respond ok done data s).inputs = s.inputs := rfl
@[simp] theorem respond_handshake (ok done : Bool) (data : Word) : (respond ok done data s).handshake = .answered := rfl
@[simp] theorem respond_doutScript (ok done : Bool) (data : Word) : (respond ok done data s).doutScript = s.doutScript := rfl
@[simp] theorem respond_clockScript (ok done : Bool) (data : Word) : (respond ok done data s).clockScript = s.clockScript := rfl
@[simp] theorem respond_doutCount (ok done : Bool) (data : Word) : (respond ok done data s).doutCount = s.doutCount := rfl
@[simp] theorem respond_clockCount (ok done : Bool) (data : Word) : (respond ok done data s).clockCount = s.clockCount := rfl
@[simp] theorem respond_responses (ok done : Bool) (data : Word) : (respond ok done data s).responses = s.responses ++ [⟨ok, done, data⟩] := rfl
@[simp] theorem respond_trace (ok done : Bool) (data : Word) : (respond ok done data s).trace = s.trace := rfl

/-! ### `clearPending` -/

@[simp] theorem clearPending_rawSample : (clearPending s).rawSample = s.rawSample := rfl
@[simp] theorem clearPending_smoothedSample : (clearPending s).smoothedSample = s.smoothedSample := rfl
@[simp] theorem clearPending_tareOffset : (clearPending s).tareOffset = s.tareOffset := rfl
@[simp] theorem clearPending_scaleFactor : (clearPending s).scaleFactor = s.scaleFactor := rfl
@[simp] theorem clearPending_gainMode : (clearPending s).gainMode = s.gainMode := rfl
@[simp] theorem clearPending_status : (clearPending s).status = s.status := rfl
@[simp] theorem clearPending_requiredReadCount : (clearPending s).requiredReadCount = s.requiredReadCount := rfl
@[simp] theorem clearPending_smoothingFactor : (clearPending s).smoothingFactor = s.smoothingFactor := rfl
@[simp] theorem clearPending_pendingReadCount : (clearPending s).pendingReadCount = 0 := rfl
@[simp] theorem clearPending_cycleStartTime : (clearPending s).cycleStartTime = s.cycleStartTime := rfl
@[simp] theorem clearPending_sck : (clearPending s).sck = s.sck := rfl
@[simp] theorem clearPending_shreg : (clearPending s).shreg = s.shreg := rfl
@[simp] theorem clearPending_pcnt : (clearPending s).pcnt = s.pcnt := rfl
@[simp] theorem clearPending_phase : (clearPending s).phase = s.phase := rfl
@[simp] theorem clearPending_xtra : (clearPending s).xtra = s.xtra := rfl
@[simp] theorem clearPending_inputs : (clearPending s).inputs = s.inputs := rfl
@[simp] theorem clearPending_handshake : (clearPending s).handshake = s.handshake := rfl
@[simp] theorem clearPending_doutScript : (clearPending s).doutScript = s.doutScript := rfl
@[simp] theorem clearPending_clockScript : (clearPending s).clockScript = s.clockScript := rfl
@[simp] theorem clearPending_doutCount : (clearPending s).doutCount = s.doutCount := rfl
@[simp] theorem clearPending_clockCount : (clearPending s).clockCount = s.clockCount := rfl
@[simp] theorem clearPending_responses : (clearPending s).responses = s.responses := rfl
@[simp] theorem clearPending_trace : (clearPending s).trace = s.trace := rfl

/-! ### `stampTime` -/

@[simp] theorem stampTime_rawSample : (stampTime s).rawSample = s.rawSample := rfl
@[simp] theorem stampTime_smoothedSample : (stampTime s).smoothedSample = s.smoothedSample := rfl
@[simp] theorem stampTime_tareOffset : (stampTime s).tareOffset = s.tareOffset := rfl
@[simp] theorem stampTime_scaleFactor : (stampTime s).scaleFactor = s.scaleFactor := rfl
@[simp] theorem stampTime_gainMode : (stampTime s).gainMode = s.gainMode := rfl
@[simp] theorem stampTime_status : (stampTime s).status = s.status := rfl
@[simp] theorem stampTime_requiredReadCount : (stampTime s).requiredReadCount = s.requiredReadCount := rfl
@[simp] theorem stampTime_smoothingFactor : (stampTime s).smoothingFactor = s.smoothingFactor := rfl
@[simp] theorem stampTime_pendingReadCount : (stampTime s).pendingReadCount = s.pendingReadCount := rfl
@[simp] theorem stampTime_cycleStartTime : (stampTime s).cycleStartTime = nowSample s := rfl
@[simp] theorem stampTime_sck : (stampTime s).sck = s.sck := rfl
@[simp] theorem stampTime_shreg : (stampTime s).shreg = s.shreg := rfl
@[simp] theorem stampTime_pcnt : (stampTime s).pcnt = s.pcnt := rfl
@[simp] theorem stampTime_phase : (stampTime s).phase = s.phase := rfl
@[simp] theorem stampTime_xtra : (stampTime s).xtra = s.xtra := rfl
@[simp] theorem stampTime_inputs : (stampTime s).inputs = s.inputs := rfl
@[simp] theorem stampTime_handshake : (stampTime s).handshake = s.handshake := rfl
@[simp] theorem stampTime_doutScript : (stampTime s).doutScript = s.doutScript := rfl
@[simp] theorem stampTime_clockScript : (stampTime s).clockScript = s.clockScript.tail := rfl
@[simp] theorem stampTime_doutCount : (stampTime s).doutCount = s.doutCount := rfl
@[simp] theorem stampTime_clockCount : (stampTime s).clockCount = s.clockCount + 1 := rfl
@[simp] theorem stampTime_responses : (stampTime s).responses = s.responses := rfl
@[simp] theorem stampTime_trace : (stampTime s).trace = s.trace := rfl

/-! ### `setStatus` -/

@[simp] theorem setStatus_rawSample (st : Status) : (setStatus st s).rawSample = s.rawSample := rfl
@[simp] theorem setStatus_smoothedSample (st : Status) : (setStatus st s).smoothedSample = s.smoothedSample := rfl
@[simp] theorem setStatus_tareOffset (st : Status) : (setStatus st s).tareOffset = s.tareOffset := rfl
@[simp] theorem setStatus_scaleFactor (st : Status) : (setStatus st s).scaleFactor = s.scaleFactor := rfl
@[simp] theorem setStatus_gainMode (st : Status) : (setStatus st s).gainMode = s.gainMode := rfl
@[simp] theorem setStatus_status (st : Status) : (setStatus st s).status = st := rfl
@[simp] theorem setStatus_requiredReadCount (st : Status) : (setStatus st s).requiredReadCount = s.requiredReadCount := rfl
@[simp] theorem setStatus_smoothingFactor (st : Status) : (setStatus st s).smoothingFactor = s.smoothingFactor := rfl
@[simp] theorem setStatus_pendingReadCount (st : Status) : (setStatus st s).pendingReadCount = s.pendingReadCount := rfl
@[simp] theorem setStatus_cycleStartTime (st : Status) : (setStatus st s).cycleStartTime = s.cycleStartTime := rfl
@[simp] theorem setStatus_sck (st : Status) : (setStatus st s).sck = s.sck := rfl
@[simp] theorem setStatus_shreg (st : Status) : (setStatus st s).shreg = s.shreg := rfl
@[simp] theorem setStatus_pcnt (st : Status) : (setStatus st s).pcnt = s.pcnt := rfl
@[simp] theorem setStatus_phase (st : Status) : (setStatus st s).phase = s.phase := rfl
@[simp] theorem setStatus_xtra (st : Status) : (setStatus st s).xtra = s.xtra := rfl
@[simp] theorem setStatus_inputs (st : Status) : (setStatus st s).inputs = s.inputs := rfl
@[simp] theorem setStatus_handshake (st : Status) : (setStatus st s).handshake = s.handshake := rfl
@[simp] theorem setStatus_doutScript (st : Status) : (setStatus st s).doutScript = s.doutScript := rfl
@[simp] theorem setStatus_clockScript (st : Status) : (setStatus st s).clockScript = s.clockScript := rfl
@[simp] theorem setStatus_doutCount (st : Status) : (setStatus st s).doutCount = s.doutCount := rfl
@[simp] theorem setStatus_clockCount (st : Status) : (setStatus st s).clockCount = s.clockCount := rfl
@[simp] theorem setStatus_responses (st : Status) : (setStatus st s).responses = s.responses := rfl
@[simp] theorem setStatus_trace (st : Status) : (setStatus st s).trace = s.trace := rfl

/-! ### `sampleBit` -/

@[simp] theorem sampleBit_rawSample : (sampleBit s).rawSample = s.rawSample := rfl
@[simp] theorem sampleBit_smoothedSample : (sampleBit s).smoothedSample = s.smoothedSample := rfl
@[simp] theorem sampleBit_tareOffset : (sampleBit s).tareOffset = s.tareOffset := rfl
@[simp] theorem sampleBit_scaleFactor : (sampleBit s).scaleFactor = s.scaleFactor := rfl
@[simp] theorem sampleBit_gainMode : (sampleBit s).gainMode = s.gainMode := rfl
@[simp] theorem sampleBit_status : (sampleBit s).status = s.status := rfl
@[simp] theorem sampleBit_requiredReadCount : (sampleBit s).requiredReadCount = s.requiredReadCount := rfl
@[simp] theorem sampleBit_smoothingFactor : (sampleBit s).smoothingFactor = s.smoothingFactor := rfl
@[simp] theorem sampleBit_pendingReadCount : (sampleBit s).pendingReadCount = s.pendingReadCount := rfl
@[simp] theorem sampleBit_cycleStartTime : (sampleBit s).cycleStartTime = s.cycleStartTime := rfl
@[simp] theorem sampleBit_sck : (sampleBit s).sck = s.sck := rfl
@[simp] theorem sampleBit_shreg : (sampleBit s).shreg = shiftIn s.shreg (doutSample s) := rfl
@[simp] theorem sampleBit_pcnt : (sampleBit s).pcnt = s.pcnt := rfl
@[simp] theorem sampleBit_phase : (sampleBit s).phase = s.phase := rfl
@[simp] theorem sampleBit_xtra : (sampleBit s).xtra = s.xtra := rfl
@[simp] theorem sampleBit_inputs : (sampleBit s).inputs = s.inputs := rfl
@[simp] theorem sampleBit_handshake : (sampleBit s).handshake = s.handshake := rfl
@[simp] theorem sampleBit_doutScript : (sampleBit s).doutScript = s.doutScript.tail := rfl
@[simp] theorem sampleBit_clockScript : (sampleBit s).clockScript = s.clockScript := rfl
@[simp] theorem sampleBit_doutCount : (sampleBit s).doutCount = s.doutCount + 1 := rfl
@[simp] theorem sampleBit_clockCount : (sampleBit s).clockCount = s.clockCount := rfl
@[simp] theorem sampleBit_responses : (sampleBit s).responses = s.responses := rfl
@[simp] theorem sampleBit_trace : (sampleBit s).trace = s.trace ++ [.dout (doutSample s)] := rfl

/-! ### `countPulse` -/

@[simp] theorem countPulse_rawSample : (countPulse s).rawSample = s.rawSample := rfl
@[simp] theorem countPulse_smoothedSample : (countPulse s).smoothedSample = s.smoothedSample := rfl
@[simp] theorem countPulse_tareOffset : (countPulse s).tareOffset = s.tareOffset := rfl
@[simp] theorem countPulse_scaleFactor : (countPulse s).scaleFactor = s.scaleFactor := rfl
@[simp] theorem countPulse_gainMode : (countPulse s).gainMode = s.gainMode := rfl
@[simp] theorem countPulse_status : (countPulse s).status = s.status := rfl
@[simp] theorem countPulse_requiredReadCount : (countPulse s).requiredReadCount = s.requiredReadCount := rfl
@[simp] theorem countPulse_smoothingFactor : (countPulse s).smoothingFactor = s.smoothingFactor := rfl
@[simp] theorem countPulse_pendingReadCount : (countPulse s).pendingReadCount = s.pendingReadCount := rfl
@[simp] theorem countPulse_cycleStartTime : (countPulse s).cycleStartTime = s.cycleStartTime := rfl
@[simp] theorem countPulse_sck : (countPulse s).sck = s.sck := rfl
@[simp] theorem countPulse_shreg : (countPulse s).shreg = s.shreg := rfl
@[simp] theorem countPulse_pcnt : (countPulse s).pcnt = s.pcnt + 1 := rfl
@[simp] theorem countPulse_phase : (countPulse s).phase = s.phase := rfl
@[simp] theorem countPulse_xtra : (countPulse s).xtra = s.xtra := rfl
@[simp] theorem countPulse_inputs : (countPulse s).inputs = s.inputs := rfl
@[simp] theorem countPulse_handshake : (countPulse s).handshake = s.handshake := rfl
@[simp] theorem countPulse_doutScript : (countPulse s).doutScript = s.doutScript := rfl
@[simp] theorem countPulse_clockScript : (countPulse s).clockScript = s.clockScript := rfl
@[simp] theorem countPulse_doutCount : (countPulse s).doutCount = s.doutCount := rfl
@[simp] theorem countPulse_clockCount : (countPulse s).clockCount = s.clockCount := rfl
@[simp] theorem countPulse_responses : (countPulse s).responses = s.responses := rfl
@[simp] theorem countPulse_trace : (countPulse s).trace = s.trace := rfl

/-! ### `transferStart` -/

@[simp] theorem transferStart_rawSample : (transferStart s).rawSample = s.rawSample := rfl
@[simp] theorem transferStart_smoothedSample : (transferStart s).smoothedSample = s.smoothedSample := rfl
@[simp] theorem transferStart_tareOffset : (transferStart s).tareOffset = s.tareOffset := rfl
@[simp] theorem transferStart_scaleFactor : (transferStart s).scaleFactor = s.scaleFactor := rfl
@[simp] theorem transferStart_gainMode : (transferStart s).gainMode = s.gainMode := rfl
@[simp] theorem transferStart_status : (transferStart s).status = s.status := rfl
@[simp] theorem transferStart_requiredReadCount : (transferStart s).requiredReadCount = s.requiredReadCount := rfl
@[simp] theorem transferStart_smoothingFactor : (transferStart s).smoothingFactor = s.smoothingFactor := rfl
@[simp] theorem transferStart_pendingReadCount : (transferStart s).pendingReadCount = s.pendingReadCount := rfl
@[simp] theorem transferStart_cycleStartTime : (transferStart s).cycleStartTime = s.cycleStartTime := rfl
@[simp] theorem transferStart_sck : (transferStart s).sck = s.sck := rfl
@[simp] theorem transferStart_shreg : (transferStart s).shreg = 0 := rfl
@[simp] theorem transferStart_pcnt : (transferStart s).pcnt = 0 := rfl
@[simp] theorem transferStart_phase : (transferStart s).phase = s.phase := rfl
@[simp] theorem transferStart_xtra : (transferStart s).xtra = s.gainMode := rfl
@[simp] theorem transferStart_inputs : (transferStart s).inputs = s.inputs := rfl
@[simp] theorem transferStart_handshake : (transferStart s).handshake = .executing := rfl
@[simp] theorem transferStart_doutScript : (transferStart s).doutScript = s.doutScript := rfl
@[simp] theorem transferStart_clockScript : (transferStart s).clockScript = s.clockScript := rfl
@[simp] theorem transferStart_doutCount : (transferStart s).doutCount = s.doutCount := rfl
@[simp] theorem transferStart_clockCount : (transferStart s).clockCount = s.clockCount := rfl
@[simp] theorem transferStart_responses : (transferStart s).responses = s.responses := rfl
@[simp] theorem transferStart_trace : (transferStart s).trace = s.trace := rfl

/-! ### `commitSample` -/

@[simp] theorem commitSample_rawSample : (commitSample s).rawSample = widenCount s.shreg := rfl
@[simp] theorem commitSample_smoothedSample : (commitSample s).smoothedSample = s.smoothedSample := rfl
@[simp] theorem commitSample_tareOffset : (commitSample s).tareOffset = s.tareOffset := rfl
@[simp] theorem commitSample_scaleFactor : (commitSample s).scaleFactor = s.scaleFactor := rfl
@[simp] theorem commitSample_gainMode : (commitSample s).gainMode = s.gainMode := rfl
@[simp] theorem commitSample_status : (commitSample s).status = s.status := rfl
@[simp] theorem commitSample_requiredReadCount : (commitSample s).requiredReadCount = s.requiredReadCount := rfl
@[simp] theorem commitSample_smoothingFactor : (commitSample s).smoothingFactor = s.smoothingFactor := rfl
@[simp] theorem commitSample_pendingReadCount : (commitSample s).pendingReadCount = s.pendingReadCount := rfl
@[simp] theorem commitSample_cycleStartTime : (commitSample s).cycleStartTime = s.cycleStartTime := rfl
@[simp] theorem commitSample_sck : (commitSample s).sck = s.sck := rfl
@[simp] theorem commitSample_shreg : (commitSample s).shreg = s.shreg := rfl
@[simp] theorem commitSample_pcnt : (commitSample s).pcnt = s.pcnt := rfl
@[simp] theorem commitSample_phase : (commitSample s).phase = s.phase := rfl
@[simp] theorem commitSample_xtra : (commitSample s).xtra = s.xtra := rfl
@[simp] theorem commitSample_inputs : (commitSample s).inputs = s.inputs := rfl
@[simp] theorem commitSample_handshake : (commitSample s).handshake = s.handshake := rfl
@[simp] theorem commitSample_doutScript : (commitSample s).doutScript = s.doutScript := rfl
@[simp] theorem commitSample_clockScript : (commitSample s).clockScript = s.clockScript := rfl
@[simp] theorem commitSample_doutCount : (commitSample s).doutCount = s.doutCount := rfl
@[simp] theorem commitSample_clockCount : (commitSample s).clockCount = s.clockCount := rfl
@[simp] theorem commitSample_responses : (commitSample s).responses = s.responses := rfl
@[simp] theorem commitSample_trace : (commitSample s).trace = s.trace := rfl

/-! ### `countTransfer` -/

@[simp] theorem countTransfer_rawSample : (countTransfer s).rawSample = s.rawSample := rfl
@[simp] theorem countTransfer_smoothedSample : (countTransfer s).smoothedSample = s.smoothedSample := rfl
@[simp] theorem countTransfer_tareOffset : (countTransfer s).tareOffset = s.tareOffset := rfl
@[simp] theorem countTransfer_scaleFactor : (countTransfer s).scaleFactor = s.scaleFactor := rfl
@[simp] theorem countTransfer_gainMode : (countTransfer s).gainMode = s.gainMode := rfl
@[simp] theorem countTransfer_status : (countTransfer s).status = s.status := rfl
@[simp] theorem countTransfer_requiredReadCount : (countTransfer s).requiredReadCount = s.requiredReadCount := rfl
@[simp] theorem countTransfer_smoothingFactor : (countTransfer s).smoothingFactor = s.smoothingFactor := rfl
@[simp] theorem countTransfer_pendingReadCount : (countTransfer s).pendingReadCount = s.pendingReadCount + 1 := rfl
@[simp] theorem countTransfer_cycleStartTime : (countTransfer s).cycleStartTime = s.cycleStartTime := rfl
@[simp] theorem countTransfer_sck : (countTransfer s).sck = s.sck := rfl
@[simp] theorem countTransfer_shreg : (countTransfer s).shreg = s.shreg := rfl
@[simp] theorem countTransfer_pcnt : (countTransfer s).pcnt = s.pcnt := rfl
@[simp] theorem countTransfer_phase : (countTransfer s).phase = s.phase := rfl
@[simp] theorem countTransfer_xtra : (countTransfer s).xtra = s.xtra := rfl
@[simp] theorem countTransfer_inputs : (countTransfer s).inputs = s.inputs := rfl
@[simp] theorem countTransfer_handshake : (countTransfer s).handshake = s.handshake := rfl
@[simp] theorem countTransfer_doutScript : (countTransfer s).doutScript = s.doutScript := rfl
@[simp] theorem countTransfer_clockScript : (countTransfer s).clockScript = s.clockScript := rfl
@[simp] theorem countTransfer_doutCount : (countTransfer s).doutCount = s.doutCount := rfl
@[simp] theorem countTransfer_clockCount : (countTransfer s).clockCount = s.clockCount := rfl
@[simp] theorem countTransfer_responses : (countTransfer s).responses = s.responses := rfl
@[simp] theorem countTransfer_trace : (countTransfer s).trace = s.trace := rfl

/-! ### `seed` -/

@[simp] theorem seed_rawSample : (seed s).rawSample = s.rawSample := rfl
@[simp] theorem seed_smoothedSample : (seed s).smoothedSample = s.rawSample := rfl
@[simp] theorem seed_tareOffset : (seed s).tareOffset = s.tareOffset := rfl
@[simp] theorem seed_scaleFactor : (seed s).scaleFactor = s.scaleFactor := rfl
@[simp] theorem seed_gainMode : (seed s).gainMode = s.gainMode := rfl
@[simp] theorem seed_status : (seed s).status = s.status := rfl
@[simp] theorem seed_requiredReadCount : (seed s).requiredReadCount = s.requiredReadCount := rfl
@[simp] theorem seed_smoothingFactor : (seed s).smoothingFactor = s.smoothingFactor := rfl
@[simp] theorem seed_pendingReadCount : (seed s).pendingReadCount = s.pendingReadCount := rfl
@[simp] theorem seed_cycleStartTime : (seed s).cycleStartTime = s.cycleStartTime := rfl
@[simp] theorem seed_sck : (seed s).sck = s.sck := rfl
@[simp] theorem seed_shreg : (seed s).shreg = s.shreg := rfl
@[simp] theorem seed_pcnt : (seed s).pcnt = s.pcnt := rfl
@[simp] theorem seed_phase : (seed s).phase = s.phase := rfl
@[simp] theorem seed_xtra : (seed s).xtra = s.xtra := rfl
@[simp] theorem seed_inputs : (seed s).inputs = s.inputs := rfl
@[simp] theorem seed_handshake : (seed s).handshake = s.handshake := rfl
@[simp] theorem seed_doutScript : (seed s).doutScript = s.doutScript := rfl
@[simp] theorem seed_clockScript : (seed s).clockScript = s.clockScript := rfl
@[simp] theorem seed_doutCount : (seed s).doutCount = s.doutCount := rfl
@[simp] theorem seed_clockCount : (seed s).clockCount = s.clockCount := rfl
@[simp] theorem seed_responses : (seed s).responses = s.responses := rfl
@[simp] theorem seed_trace : (seed s).trace = s.trace := rfl

/-! ### `blend` -/

@[simp] theorem blend_rawSample : (blend s).rawSample = s.rawSample := rfl
@[simp] theorem blend_smoothedSample : (blend s).smoothedSample = smooth s.smoothedSample s.rawSample s.smoothingFactor := rfl
@[simp] theorem blend_tareOffset : (blend s).tareOffset = s.tareOffset := rfl
@[simp] theorem blend_scaleFactor : (blend s).scaleFactor = s.scaleFactor := rfl
@[simp] theorem blend_gainMode : (blend s).gainMode = s.gainMode := rfl
@[simp] theorem blend_status : (blend s).status = s.status := rfl
@[simp] theorem blend_requiredReadCount : (blend s).requiredReadCount = s.requiredReadCount := rfl
@[simp] theorem blend_smoothingFactor : (blend s).smoothingFactor = s.smoothingFactor := rfl
@[simp] theorem blend_pendingReadCount : (blend s).pendingReadCount = s.pendingReadCount := rfl
@[simp] theorem blend_cycleStartTime : (blend s).cycleStartTime = s.cycleStartTime := rfl
@[simp] theorem blend_sck : (blend s).sck = s.sck := rfl
@[simp] theorem blend_shreg : (blend s).shreg = s.shreg := rfl
@[simp] theorem blend_pcnt : (blend s).pcnt = s.pcnt := rfl
@[simp] theorem blend_phase : (blend s).phase = s.phase := rfl
@[simp] theorem blend_xtra : (blend s).xtra = s.xtra := rfl
@[simp] theorem blend_inputs : (blend s).inputs = s.inputs := rfl
@[simp] theorem blend_handshake : (blend s).handshake = s.handshake := rfl
@[simp] theorem blend_doutScript : (blend s).doutScript = s.doutScript := rfl
@[simp] theorem blend_clockScript : (blend s).clockScript = s.clockScript := rfl
@[simp] theorem blend_doutCount : (blend s).doutCount = s.doutCount := rfl
@[simp] theorem blend_clockCount : (blend s).clockCount = s.clockCount := rfl
@[simp] theorem blend_responses : (blend s).responses = s.responses := rfl
@[simp] theorem blend_trace : (blend s).trace = s.trace := rfl

/-! ### `risingEdge` -/

@[simp] theorem risingEdge_rawSample : (risingEdge s).rawSample = s.rawSample := rfl
@[simp] theorem risingEdge_smoothedSample : (risingEdge s).smoothedSample = s.smoothedSample := rfl
@[simp] theorem risingEdge_tareOffset : (risingEdge s).tareOffset = s.tareOffset := rfl
@[simp] theorem risingEdge_scaleFactor : (risingEdge s).scaleFactor = s.scaleFactor := rfl
@[simp] theorem risingEdge_gainMode : (risingEdge s).gainMode = s.gainMode := rfl
@[simp] theorem risingEdge_status : (risingEdge s).status = s.status := rfl
@[simp] theorem risingEdge_requiredReadCount : (risingEdge s).requiredReadCount = s.requiredReadCount := rfl
@[simp] theorem risingEdge_smoothingFactor : (risingEdge s).smoothingFactor = s.smoothingFactor := rfl
@[simp] theorem risingEdge_pendingReadCount : (risingEdge s).pendingReadCount = s.pendingReadCount := rfl
@[simp] theorem risingEdge_cycleStartTime : (risingEdge s).cycleStartTime = s.cycleStartTime := rfl
@[simp] theorem risingEdge_sck : (risingEdge s).sck = .high := rfl
@[simp] theorem risingEdge_shreg : (risingEdge s).shreg = s.shreg := rfl
@[simp] theorem risingEdge_pcnt : (risingEdge s).pcnt = s.pcnt := rfl
@[simp] theorem risingEdge_phase : (risingEdge s).phase = .high := rfl
@[simp] theorem risingEdge_xtra : (risingEdge s).xtra = s.xtra := rfl
@[simp] theorem risingEdge_inputs : (risingEdge s).inputs = s.inputs := rfl
@[simp] theorem risingEdge_handshake : (risingEdge s).handshake = s.handshake := rfl
@[simp] theorem risingEdge_doutScript : (risingEdge s).doutScript = s.doutScript := rfl
@[simp] theorem risingEdge_clockScript : (risingEdge s).clockScript = s.clockScript := rfl
@[simp] theorem risingEdge_doutCount : (risingEdge s).doutCount = s.doutCount := rfl
@[simp] theorem risingEdge_clockCount : (risingEdge s).clockCount = s.clockCount := rfl
@[simp] theorem risingEdge_responses : (risingEdge s).responses = s.responses := rfl
@[simp] theorem risingEdge_trace : (risingEdge s).trace = s.trace ++ [.sck .high] := rfl

/-! ### `blockReset` -/

@[simp] theorem blockReset_rawSample : (blockReset s).rawSample = State.reset.rawSample := rfl
@[simp] theorem blockReset_smoothedSample : (blockReset s).smoothedSample = State.reset.smoothedSample := rfl
@[simp] theorem blockReset_tareOffset : (blockReset s).tareOffset = State.reset.tareOffset := rfl
@[simp] theorem blockReset_scaleFactor : (blockReset s).scaleFactor = State.reset.scaleFactor := rfl
@[simp] theorem blockReset_gainMode : (blockReset s).gainMode = State.reset.gainMode := rfl
@[simp] theorem blockReset_status : (blockReset s).status = State.reset.status := rfl
@[simp] theorem blockReset_requiredReadCount : (blockReset s).requiredReadCount = State.reset.requiredReadCount := rfl
@[simp] theorem blockReset_smoothingFactor : (blockReset s).smoothingFactor = State.reset.smoothingFactor := rfl
@[simp] theorem blockReset_pendingReadCount : (blockReset s).pendingReadCount = State.reset.pendingReadCount := rfl
@[simp] theorem blockReset_cycleStartTime : (blockReset s).cycleStartTime = State.reset.cycleStartTime := rfl
@[simp] theorem blockReset_sck : (blockReset s).sck = State.reset.sck := rfl
@[simp] theorem blockReset_shreg : (blockReset s).shreg = State.reset.shreg := rfl
@[simp] theorem blockReset_pcnt : (blockReset s).pcnt = State.reset.pcnt := rfl
@[simp] theorem blockReset_phase : (blockReset s).phase = State.reset.phase := rfl
@[simp] theorem blockReset_xtra : (blockReset s).xtra = State.reset.xtra := rfl
@[simp] theorem blockReset_inputs : (blockReset s).inputs = s.inputs := rfl
@[simp] theorem blockReset_handshake : (blockReset s).handshake = State.reset.handshake := rfl
@[simp] theorem blockReset_doutScript : (blockReset s).doutScript = s.doutScript := rfl
@[simp] theorem blockReset_clockScript : (blockReset s).clockScript = s.clockScript := rfl
@[simp] theorem blockReset_doutCount : (blockReset s).doutCount = s.doutCount := rfl
@[simp] theorem blockReset_clockCount : (blockReset s).clockCount = s.clockCount := rfl
@[simp] theorem blockReset_responses : (blockReset s).responses = s.responses := rfl
@[simp] theorem blockReset_trace : (blockReset s).trace = s.trace := rfl

/-! ### The ports -/

/-- When the block accepts a command (R10, R37). -/
theorem cmdReadyO_iff : cmdReadyO s = true ↔ s.handshake ≠ .executing ∧ s.phase = .idle := by
  simp [cmdReadyO]

theorem cmdReadyO_of_executing {s : State} (h : s.handshake = .executing) : cmdReadyO s = false := by
  simp [cmdReadyO, h]

theorem rspValidO_of_answered {s : State} (h : s.handshake = .answered) : rspValidO s = true := by
  simp [rspValidO, h]

theorem rspValidO_of_executing {s : State} (h : s.handshake = .executing) : rspValidO s = false := by
  simp [rspValidO, h]

/-- The latest response is the one at the port (R9). -/
theorem rspO_of_answered {s : State} {rs : List Response} {r : Response} (h : s.handshake = .answered)
    (hr : s.responses = rs ++ [r]) : rspO s = some (packResponse r) := by
  simp [rspO, rspValidO, h, hr]

@[simp] theorem cmdI_setInputs_command (w : CommandWord) (rest : List Input) :
    cmdI (setInputs (.command w :: rest) s) = some w := rfl
@[simp] theorem cmdI_setInputs_cut (edges : Nat) (rest : List Input) :
    cmdI (setInputs (.pollCutByReset edges :: rest) s) = some (encode .poll) := rfl

/-- A command word is presented, or the next input is reset, or there is none (R9, R10). -/
theorem cmdI_cases :
    (∃ w rest, s.inputs = .command w :: rest ∧ cmdI s = some w) ∨
    (∃ edges rest, s.inputs = .pollCutByReset edges :: rest ∧ cmdI s = some (encode .poll)) ∨
    (∃ rest, s.inputs = .reset :: rest ∧ cmdI s = none) ∨ (s.inputs = [] ∧ cmdI s = none) := by
  unfold cmdI
  rcases s.inputs with _ | ⟨w | _ | edges, rest⟩ <;> simp

@[simp] theorem cmdReadyO_blockReset : cmdReadyO (blockReset s) = true := rfl
@[simp] theorem rspValidO_blockReset : rspValidO (blockReset s) = false := rfl
@[simp] theorem rspO_blockReset : rspO (blockReset s) = none := rfl
@[simp] theorem rspO_respond (ok done : Bool) (data : Word) :
    rspO (respond ok done data s) = some (packResponse ⟨ok, done, data⟩) := rspO_of_answered rfl rfl

/-! ### The samples still to come -/

@[simp] theorem doutAt_setInputs (rest : List Input) (k : Nat) : doutAt (setInputs rest s) k = doutAt s k := rfl
@[simp] theorem clockAt_setInputs (rest : List Input) (k : Nat) : clockAt (setInputs rest s) k = clockAt s k := rfl
@[simp] theorem doutAt_accept (rest : List Input) (k : Nat) : doutAt (accept rest s) k = doutAt s k := rfl
@[simp] theorem clockAt_accept (rest : List Input) (k : Nat) : clockAt (accept rest s) k = clockAt s k := rfl
@[simp] theorem doutAt_sckWrite (l : Level) (k : Nat) : doutAt (sckWrite l s) k = doutAt s k := rfl
@[simp] theorem clockAt_sckWrite (l : Level) (k : Nat) : clockAt (sckWrite l s) k = clockAt s k := rfl
@[simp] theorem doutAt_doutTake (k : Nat) : doutAt (doutTake s) k = doutAt s (k + 1) := by
  simp [doutAt, Nat.add_assoc, Nat.add_comm 1 k]
@[simp] theorem clockAt_doutTake (k : Nat) : clockAt (doutTake s) k = clockAt s k := rfl
@[simp] theorem doutAt_nowTake (k : Nat) : doutAt (nowTake s) k = doutAt s k := rfl
@[simp] theorem clockAt_nowTake (k : Nat) : clockAt (nowTake s) k = clockAt s (k + 1) := by
  simp [clockAt, Nat.add_assoc, Nat.add_comm 1 k]
@[simp] theorem doutAt_respond (ok done : Bool) (data : Word) (k : Nat) : doutAt (respond ok done data s) k = doutAt s k := rfl
@[simp] theorem clockAt_respond (ok done : Bool) (data : Word) (k : Nat) : clockAt (respond ok done data s) k = clockAt s k := rfl
@[simp] theorem doutAt_clearPending (k : Nat) : doutAt (clearPending s) k = doutAt s k := rfl
@[simp] theorem clockAt_clearPending (k : Nat) : clockAt (clearPending s) k = clockAt s k := rfl
@[simp] theorem doutAt_stampTime (k : Nat) : doutAt (stampTime s) k = doutAt s k := rfl
@[simp] theorem clockAt_stampTime (k : Nat) : clockAt (stampTime s) k = clockAt s (k + 1) := by
  simp [clockAt, Nat.add_assoc, Nat.add_comm 1 k]
@[simp] theorem doutAt_setStatus (st : Status) (k : Nat) : doutAt (setStatus st s) k = doutAt s k := rfl
@[simp] theorem clockAt_setStatus (st : Status) (k : Nat) : clockAt (setStatus st s) k = clockAt s k := rfl
@[simp] theorem doutAt_sampleBit (k : Nat) : doutAt (sampleBit s) k = doutAt s (k + 1) := by
  simp [doutAt, Nat.add_assoc, Nat.add_comm 1 k]
@[simp] theorem clockAt_sampleBit (k : Nat) : clockAt (sampleBit s) k = clockAt s k := rfl
@[simp] theorem doutAt_countPulse (k : Nat) : doutAt (countPulse s) k = doutAt s k := rfl
@[simp] theorem clockAt_countPulse (k : Nat) : clockAt (countPulse s) k = clockAt s k := rfl
@[simp] theorem doutAt_transferStart (k : Nat) : doutAt (transferStart s) k = doutAt s k := rfl
@[simp] theorem clockAt_transferStart (k : Nat) : clockAt (transferStart s) k = clockAt s k := rfl
@[simp] theorem doutAt_commitSample (k : Nat) : doutAt (commitSample s) k = doutAt s k := rfl
@[simp] theorem clockAt_commitSample (k : Nat) : clockAt (commitSample s) k = clockAt s k := rfl
@[simp] theorem doutAt_countTransfer (k : Nat) : doutAt (countTransfer s) k = doutAt s k := rfl
@[simp] theorem clockAt_countTransfer (k : Nat) : clockAt (countTransfer s) k = clockAt s k := rfl
@[simp] theorem doutAt_seed (k : Nat) : doutAt (seed s) k = doutAt s k := rfl
@[simp] theorem clockAt_seed (k : Nat) : clockAt (seed s) k = clockAt s k := rfl
@[simp] theorem doutAt_blend (k : Nat) : doutAt (blend s) k = doutAt s k := rfl
@[simp] theorem clockAt_blend (k : Nat) : clockAt (blend s) k = clockAt s k := rfl
@[simp] theorem doutAt_risingEdge (k : Nat) : doutAt (risingEdge s) k = doutAt s k := rfl
@[simp] theorem clockAt_risingEdge (k : Nat) : clockAt (risingEdge s) k = clockAt s k := rfl
@[simp] theorem doutAt_blockReset (k : Nat) : doutAt (blockReset s) k = doutAt s k := rfl
@[simp] theorem clockAt_blockReset (k : Nat) : clockAt (blockReset s) k = clockAt s k := rfl

/-! ### Named compositions, as the updates they are made of -/

@[simp] theorem answer_eq (data : Word) : answer data s = respond true true data s := rfl
@[simp] theorem answerNothing_eq : answerNothing s = respond true true 0 s := rfl
@[simp] theorem answerRefused_eq : answerRefused s = respond false true 0 s := rfl
@[simp] theorem enterPoweredDown_eq : enterPoweredDown s = setStatus .poweredDown s := rfl
@[simp] theorem enterTimedOut_eq : enterTimedOut s = setStatus .timedOut s := rfl
@[simp] theorem enterValid_eq : enterValid s = setStatus .valid s := rfl
@[simp] theorem restartWarmUp_eq : restartWarmUp s = clearPending (setStatus .initializing s) := rfl
@[simp] theorem reportValid_eq : reportValid s = respond true true 0 (setStatus .valid s) := rfl
@[simp] theorem doutSample_eq : doutSample s = doutAt s 0 := rfl
@[simp] theorem nowSample_eq : nowSample s = clockAt s 0 := rfl
@[simp] theorem sckRead_eq : sckRead s = s.sck := rfl

end Sys2Proof.Machine
end

