-- ==== Sys2Proof/Laws/Poll.lean ====
section
/-! SUPPORT. What POLL can do (41_poll.md): its three ways past the checks, the closed form of a transfer, and the three
cases of its end. -/

namespace Sys2Proof.Machine

/-! ### Repetition -/

@[simp] theorem times_zero (f : State → State) (s : State) : times 0 f s = s := rfl

theorem times_succ (n : Nat) (f : State → State) (s : State) : times (n + 1) f s = times n f (f s) := rfl

theorem times_succ_last (n : Nat) (f : State → State) (s : State) : times (n + 1) f s = f (times n f s) := by
  induction n generalizing s with
  | zero => rfl
  | succ n ih => rw [times_succ, ih, times_succ]

theorem times_add (m n : Nat) (f : State → State) (s : State) : times (m + n) f s = times n f (times m f s) := by
  induction m generalizing s with
  | zero => simp
  | succ m ih => rw [Nat.succ_add, times_succ, ih, times_succ]

/-- What every application keeps, the repetition keeps. -/
theorem times_keeps {P : State → Prop} {f : State → State} (hf : ∀ s, P s → P (f s)) (n : Nat) {s : State} (h : P s) :
    P (times n f s) := by
  induction n generalizing s with
  | zero => exact h
  | succ n ih => exact ih (hf s h)

/-! ### The shift register -/

/-- A register after n levels have been shifted in (R76). -/
def shifted (f : Nat → Level) : Nat → BitVec 24 → BitVec 24
  | 0, r => r
  | n + 1, r => shiftIn (shifted f n r) (f n)

theorem shiftIn_getLsbD_zero (r : BitVec 24) (l : Level) : (shiftIn r l).getLsbD 0 = decide (l = .high) := by
  rw [shiftIn, BitVec.getLsbD_append]
  cases l <;> rfl

theorem shiftIn_getLsbD_succ (r : BitVec 24) (l : Level) {k : Nat} (h : k < 23) :
    (shiftIn r l).getLsbD (k + 1) = r.getLsbD k := by
  rw [shiftIn, BitVec.getLsbD_append]
  simp [h]

/-- After n shifts, bit k is the level shifted in k places before the last (R43). -/
theorem shifted_getLsbD (f : Nat → Level) (r : BitVec 24) (n k : Nat) (hk : k < n) (hk24 : k < 24) :
    (shifted f n r).getLsbD k = decide (f (n - 1 - k) = .high) := by
  induction n generalizing k with
  | zero => omega
  | succ n ih =>
    cases k with
    | zero => rw [shifted, shiftIn_getLsbD_zero]; rfl
    | succ k =>
      rw [shifted, shiftIn_getLsbD_succ _ _ (by omega), ih k (by omega) (by omega)]
      congr 3
      omega

/-- The 24 bits a transfer from `s` receives, where `s` is the state after the busy check's sample. -/
def received (s : State) : BitVec 24 := shifted (doutAt s) 24 0

/-- The first sample is the most significant bit (R43, R76). -/
theorem received_getMsbD (s : State) {k : Nat} (hk : k < 24) :
    (received s).getMsbD k = decide (doutAt s k = .high) := by
  rw [BitVec.getMsbD, received, shifted_getLsbD _ _ _ _ (by omega) (by omega)]
  simp [hk, show 24 - 1 - (24 - 1 - k) = k by omega]

theorem widenCount_getMsbD (r : BitVec 24) {k : Nat} (hk : k < 24) : (widenCount r).getMsbD k = r.getMsbD k := by
  rw [widenCount, BitVec.getMsbD_append]
  simp [hk]

theorem widenCount_low (r : BitVec 24) : (widenCount r).extractLsb' 0 8 = 0 := by
  ext i h
  rw [BitVec.getElem_extractLsb', widenCount, BitVec.getLsbD_append]
  simp [h]

theorem widenCount_high (r : BitVec 24) : (widenCount r).extractLsb' 8 24 = r := by
  ext i h
  rw [BitVec.getElem_extractLsb', widenCount, BitVec.getLsbD_append]
  simp [BitVec.getLsbD_eq_getElem h]

/-! ### The transfer in closed form -/

theorem times_dataPulse (n : Nat) (s : State) :
    times n dataPulse s =
      { s with
        sck := if n = 0 then s.sck else .low
        shreg := shifted (doutAt s) n s.shreg
        pcnt := s.pcnt + BitVec.ofNat 5 n
        doutScript := s.doutScript.drop n
        doutCount := s.doutCount + n
        trace := s.trace ++ (List.range n).flatMap fun k => [.sck .high, .dout (doutAt s k), .sck .low] } := by
  induction n with
  | zero => simp [shifted]
  | succ n ih =>
    have hd : ∀ t : State, t.doutScript = s.doutScript.drop n → t.doutCount = s.doutCount + n →
        doutAt t 0 = doutAt s n := by
      intro t h1 h2
      simp [doutAt, h1, h2]
    rw [times_succ_last, ih]
    simp only [dataPulse, countPulse, sckWrite, sampleBit, doutTake, doutSample]
    simp only [State.mk.injEq, true_and]
    refine ⟨by simp, ?_, ?_, by simp, by omega, ?_⟩
    · rw [shifted]
      congr 1
      exact hd _ rfl rfl
    · rw [show BitVec.ofNat 5 (n + 1) = BitVec.ofNat 5 n + 1#5 from BitVec.ofNat_add n 1]
      exact BitVec.add_assoc _ _ _
    · rw [List.range_succ, List.flatMap_append]
      simp only [List.append_assoc, List.flatMap_cons, List.flatMap_nil, List.cons_append, List.nil_append,
        List.append_cancel_left_eq]
      simp only [List.cons.injEq, Event.dout.injEq, and_true, true_and]
      exact hd _ rfl rfl

theorem times_gainPulse (n : Nat) (s : State) :
    times n gainPulse s =
      { s with
        sck := if n = 0 then s.sck else .low
        pcnt := s.pcnt + BitVec.ofNat 5 n
        trace := s.trace ++ (List.replicate n gainPulseEvents).flatten } := by
  induction n with
  | zero => simp
  | succ n ih =>
    rw [times_succ_last, ih]
    simp only [gainPulse, countPulse, sckWrite, State.mk.injEq, true_and]
    refine ⟨by simp, ?_, ?_⟩
    · rw [show BitVec.ofNat 5 (n + 1) = BitVec.ofNat 5 n + 1#5 from BitVec.ofNat_add n 1]
      exact BitVec.add_assoc _ _ _
    · simp [List.replicate_succ', gainPulseEvents]

/-- The state at the end of a transfer's pulses, stamped: everything R76 to R79 do. -/
def transferred (s : State) : State :=
  { s with
    rawSample := widenCount (received s)
    cycleStartTime := clockAt s 0
    sck := .low
    shreg := received s
    pcnt := BitVec.ofNat 5 (24 + s.gainMode.toNat)
    phase := .idle
    xtra := s.gainMode
    handshake := .executing
    doutScript := s.doutScript.drop 24
    clockScript := s.clockScript.tail
    doutCount := s.doutCount + 24
    clockCount := s.clockCount + 1
    trace := s.trace ++ ((List.range 24).flatMap fun k => [.sck .high, .dout (doutAt s k), .sck .low]) ++
      (List.replicate s.gainMode.toNat gainPulseEvents).flatten }

theorem transfer_eq (s : State) : transfer s = settle (transferred s) := by
  rw [transfer, transferFinish, times_gainPulse, times_dataPulse]
  congr 1
  apply State.ext <;> try rfl
  · simp [transferStart, commitSample, stampTime, transferred, Config.dataBits]
  · simp only [transferred, BitVec.ofNat_add]
    rfl

/-! ### The end of a transfer -/

theorem warming_iff (s : State) : warming s = true ↔ s.pendingReadCount.toNat < s.requiredReadCount.toNat := by
  simp [warming, BitVec.lt_def]

/-- The increment of the warm-up count does not wrap (R32). -/
theorem countTransfer_toNat {s : State} (h : s.pendingReadCount.toNat < s.requiredReadCount.toNat) :
    (countTransfer s).pendingReadCount.toNat = s.pendingReadCount.toNat + 1 := by
  have := s.requiredReadCount.isLt
  simp only [countTransfer_pendingReadCount, BitVec.toNat_add]
  simp
  omega

/-- R80, first case. -/
theorem settle_counts {s : State} (h : s.pendingReadCount.toNat + 1 < s.requiredReadCount.toNat) :
    settle s = respond true false 0 (countTransfer s) := by
  have h1 : s.pendingReadCount.toNat < s.requiredReadCount.toNat := by omega
  have h2 : warming (countTransfer s) = true := by
    rw [warming_iff, countTransfer_toNat h1]; simpa using h
  simp [settle, (warming_iff s).2 h1, h2]

/-- R80, second case. -/
theorem settle_seeds {s : State} (h : s.pendingReadCount.toNat + 1 = s.requiredReadCount.toNat) :
    settle s = respond true true 0 (setStatus .valid (seed (countTransfer s))) := by
  have h1 : s.pendingReadCount.toNat < s.requiredReadCount.toNat := by omega
  have h2 : ¬ warming (countTransfer s) = true := by
    rw [warming_iff, countTransfer_toNat h1]; simp; omega
  simp [settle, (warming_iff s).2 h1, h2]

/-- R80, third case. -/
theorem settle_blends {s : State} (h : s.requiredReadCount.toNat ≤ s.pendingReadCount.toNat) :
    settle s = respond true true 0 (setStatus .valid (blend s)) := by
  have h1 : ¬ warming s = true := by rw [warming_iff]; omega
  simp [settle, h1]

/-- The three ends of a transfer, and nothing else (R80). -/
theorem settle_cases (s : State) :
    (s.pendingReadCount.toNat + 1 < s.requiredReadCount.toNat ∧
      settle s = respond true false 0 (countTransfer s)) ∨
    (s.pendingReadCount.toNat + 1 = s.requiredReadCount.toNat ∧
      settle s = respond true true 0 (setStatus .valid (seed (countTransfer s)))) ∨
    (s.requiredReadCount.toNat ≤ s.pendingReadCount.toNat ∧
      settle s = respond true true 0 (setStatus .valid (blend s))) := by
  rcases Nat.lt_trichotomy (s.pendingReadCount.toNat + 1) s.requiredReadCount.toNat with h | h | h
  · exact .inl ⟨h, settle_counts h⟩
  · exact .inr (.inl ⟨h, settle_seeds h⟩)
  · exact .inr (.inr ⟨by omega, settle_blends (by omega)⟩)

/-- The end of a transfer writes the warm-up count, `smoothedSample`, `status` and a response, and nothing else;
the command is answered. -/
theorem settle_eq (s : State) :
    settle s =
      { s with
        pendingReadCount := (settle s).pendingReadCount
        smoothedSample := (settle s).smoothedSample
        status := (settle s).status
        handshake := .answered
        responses := (settle s).responses } := by
  rcases settle_cases s with ⟨_, h⟩ | ⟨_, h⟩ | ⟨_, h⟩ <;> rw [h] <;> rfl

/-! ### The checks before a transfer -/

theorem level_cases (l : Level) : l = .high ∨ l = .low := by cases l <;> simp

/-- The elapsed time of the busy check, on numbers (R68). -/
theorem elapsedMs_eq (s : State) : elapsedMs (clockAt s 0) s.cycleStartTime = elapsedSince s 0 := by
  have h1 := (clockAt s 0).isLt
  have h2 := s.cycleStartTime.isLt
  rw [elapsedMs, usub32, BitVec.toNat_sub, elapsedSince]
  congr 1
  omega

/-- R73. -/
theorem pollWith_poweredDown (f : State → State) {s : State} (h : s.sck = .high) :
    pollWith f s = respond true true 0 (setStatus .poweredDown s) := by
  simp [pollWith, h]

/-- R74, past the window. -/
theorem pollWith_timedOut (f : State → State) {s : State} (h : s.sck = .low) (hd : doutAt s 0 = .high)
    (he : 500 < elapsedSince s 0) :
    pollWith f s = respond true true 0 (setStatus .timedOut (nowTake (doutTake s))) := by
  have hw : windowExpired (nowSample (doutTake s)) (doutTake s).cycleStartTime = true := by
    simpa [windowExpired, Config.timeoutMs, elapsedMs_eq] using he
  have hr : sckRead s = .low := h
  have hs : doutSample s = .high := hd
  rw [pollWith, if_neg (by rw [hr]; decide), if_pos hs, busy, if_pos hw]
  rfl

/-- R74, inside the window. -/
theorem pollWith_busy (f : State → State) {s : State} (h : s.sck = .low) (hd : doutAt s 0 = .high)
    (he : elapsedSince s 0 ≤ 500) :
    pollWith f s = respond true false 0 (nowTake (doutTake s)) := by
  have hw : ¬ windowExpired (nowSample (doutTake s)) (doutTake s).cycleStartTime = true := by
    simpa [windowExpired, Config.timeoutMs, elapsedMs_eq] using he
  have hr : sckRead s = .low := h
  have hs : doutSample s = .high := hd
  rw [pollWith, if_neg (by rw [hr]; decide), if_pos hs, busy, if_neg hw]

/-- R74, third case: a transfer starts, after recovery (R75). -/
theorem pollWith_ready (f : State → State) {s : State} (h : s.sck = .low) (hd : doutAt s 0 = .low) :
    pollWith f s = f (recoverFromTimeout (doutTake s)) := by
  simp [pollWith, h, hd]

/-- Every POLL takes one of these four ways (R83, R123). -/
theorem pollWith_cases (f : State → State) (s : State) :
    (s.sck = .high ∧ pollWith f s = respond true true 0 (setStatus .poweredDown s)) ∨
    (s.sck = .low ∧ doutAt s 0 = .high ∧ 500 < elapsedSince s 0 ∧
      pollWith f s = respond true true 0 (setStatus .timedOut (nowTake (doutTake s)))) ∨
    (s.sck = .low ∧ doutAt s 0 = .high ∧ elapsedSince s 0 ≤ 500 ∧
      pollWith f s = respond true false 0 (nowTake (doutTake s))) ∨
    (s.sck = .low ∧ doutAt s 0 = .low ∧ pollWith f s = f (recoverFromTimeout (doutTake s))) := by
  rcases level_cases s.sck with h | h
  · exact .inl ⟨h, pollWith_poweredDown f h⟩
  · rcases level_cases (doutAt s 0) with hd | hd
    · rcases Nat.lt_or_ge 500 (elapsedSince s 0) with he | he
      · exact .inr (.inl ⟨h, hd, he, pollWith_timedOut f h hd he⟩)
      · exact .inr (.inr (.inl ⟨h, hd, he, pollWith_busy f h hd he⟩))
    · exact .inr (.inr (.inr ⟨h, hd, pollWith_ready f h hd⟩))

/-- The state recovery leaves: status and warm-up count only (R75). -/
theorem recoverFromTimeout_eq (s : State) :
    recoverFromTimeout s =
      { s with
        status := if s.status = .timedOut then .initializing else s.status
        pendingReadCount := if s.status = .timedOut then 0 else s.pendingReadCount } := by
  unfold recoverFromTimeout
  split <;> simp_all [restartWarmUp, clearPending, setStatus]

/-- The state a transfer of POLL ends its pulses in, from the state POLL starts in. -/
def pollTransferred (s : State) : State := transferred (recoverFromTimeout (doutTake s))

/-- A POLL that finds the chip ready (R72 lines 11 to 33). -/
theorem poll_ready {s : State} (h : s.sck = .low) (hd : doutAt s 0 = .low) :
    pollWith transfer s = settle (pollTransferred s) := by
  rw [pollWith_ready _ h hd, transfer_eq, pollTransferred]

/-- The state at the end of the pulses, field by field. -/
theorem pollTransferred_eq (s : State) :
    pollTransferred s =
      { s with
        rawSample := widenCount (received (doutTake s))
        cycleStartTime := clockAt s 0
        status := if s.status = .timedOut then .initializing else s.status
        pendingReadCount := if s.status = .timedOut then 0 else s.pendingReadCount
        sck := .low
        shreg := received (doutTake s)
        pcnt := BitVec.ofNat 5 (24 + s.gainMode.toNat)
        phase := .idle
        xtra := s.gainMode
        handshake := .executing
        doutScript := s.doutScript.drop 25
        clockScript := s.clockScript.tail
        doutCount := s.doutCount + 25
        clockCount := s.clockCount + 1
        trace := s.trace ++ [.dout (doutAt s 0)] ++ (List.range 24).flatMap (dataPulseEvents s) ++
          (List.replicate s.gainMode.toNat gainPulseEvents).flatten } := by
  have hd : ∀ k, doutAt (recoverFromTimeout (doutTake s)) k = doutAt s (k + 1) := by
    intro k
    rw [recoverFromTimeout_eq, ← doutAt_doutTake]
    rfl
  have hr : received (recoverFromTimeout (doutTake s)) = received (doutTake s) := by
    rw [received, received, funext hd, funext (doutAt_doutTake s)]
  rw [pollTransferred, transferred, hr]
  simp only [hd]
  rw [recoverFromTimeout_eq]
  apply State.ext <;> try rfl
  simp

/-- The warm-up count the end of the transfer starts from (R75, R83). -/
theorem pollTransferred_pending (s : State) :
    (pollTransferred s).pendingReadCount.toNat = pendingAfterRecovery s := by
  rw [pollTransferred_eq, pendingAfterRecovery]
  simp only
  split <;> simp

/-- What no POLL writes, whichever way it takes (R23 to R34). -/
theorem poll_keeps (s : State) :
    let t := pollWith transfer s
    t.tareOffset = s.tareOffset ∧ t.scaleFactor = s.scaleFactor ∧ t.gainMode = s.gainMode ∧
    t.requiredReadCount = s.requiredReadCount ∧ t.smoothingFactor = s.smoothingFactor ∧ t.sck = s.sck ∧
    t.inputs = s.inputs := by
  intro t
  rcases pollWith_cases transfer s with ⟨_, e⟩ | ⟨_, _, _, e⟩ | ⟨_, _, _, e⟩ | ⟨h, hd, _⟩
  · simp [t, e]
  · simp [t, e]
  · simp [t, e]
  · simp only [t]
    rw [poll_ready h hd, settle_eq, pollTransferred_eq, h]
    simp

/-- Every POLL appends exactly one response, with `ok` = 1 and no data (R56, R72). -/
theorem poll_responses (s : State) :
    ∃ done : Bool, (pollWith transfer s).responses = s.responses ++ [⟨true, done, 0⟩] := by
  rcases pollWith_cases transfer s with ⟨_, e⟩ | ⟨_, _, _, e⟩ | ⟨_, _, _, e⟩ | ⟨h, hd, _⟩
  · exact ⟨true, by rw [e]; simp⟩
  · exact ⟨true, by rw [e]; simp⟩
  · exact ⟨false, by rw [e]; simp⟩
  · have hr : (pollTransferred s).responses = s.responses := by rw [pollTransferred_eq]
    rw [poll_ready h hd]
    rcases settle_cases (pollTransferred s) with ⟨_, e⟩ | ⟨_, e⟩ | ⟨_, e⟩
    · exact ⟨false, by rw [e]; simp [hr]⟩
    · exact ⟨true, by rw [e]; simp [hr]⟩
    · exact ⟨true, by rw [e]; simp [hr]⟩

/-- A POLL ends answered, whichever way it takes (R10). -/
theorem poll_handshake (s : State) : (pollWith transfer s).handshake = .answered := by
  rcases pollWith_cases transfer s with ⟨_, e⟩ | ⟨_, _, _, e⟩ | ⟨_, _, _, e⟩ | ⟨h, hd, _⟩
  · rw [e]; rfl
  · rw [e]; rfl
  · rw [e]; rfl
  · rw [poll_ready h hd, settle_eq]

/-- A POLL does not move the sequencer from IDLE (R37, R89). -/
theorem poll_phase {s : State} (hp : s.phase = .idle) : (pollWith transfer s).phase = .idle := by
  rcases pollWith_cases transfer s with ⟨_, e⟩ | ⟨_, _, _, e⟩ | ⟨_, _, _, e⟩ | ⟨h, hd, _⟩
  · rw [e]; exact hp
  · rw [e]; exact hp
  · rw [e]; exact hp
  · rw [poll_ready h hd, settle_eq, pollTransferred_eq]

/-- Under `ENV-FRAME` a transfer receives the conversion result (R20). -/
theorem received_of_frame {s : State} {count : BitVec 24} (h : EnvFrame s count) : received (doutTake s) = count := by
  apply BitVec.eq_of_getMsbD_eq
  intro k hk
  rw [received_getMsbD _ hk, doutAt_doutTake, h k hk]
  cases count.getMsbD k <;> simp

/-- A committed count reads as 256 times the count (R44, R77). -/
theorem widenCount_toInt (r : BitVec 24) : (widenCount r).toInt = 256 * r.toInt := by
  have h : (widenCount r).toNat = r.toNat * 256 := by
    rw [widenCount, BitVec.toNat_append]
    simp [Nat.shiftLeft_eq]
  have := r.isLt
  rw [BitVec.toInt_eq_toNat_cond, BitVec.toInt_eq_toNat_cond r, h]
  split <;> split <;> omega

end Sys2Proof.Machine
end

