-- ==== Sys2Proof/Laws/Sequencer.lean ====
section
/-! SUPPORT. The sequencer two edges at a time (41_poll.md R85 to R89): two transitions are one pulse, so a transfer by
edges is the transfer by pulses. -/

namespace Sys2Proof.Machine

/-- `PHASE <- p`. -/
def setPhase (p : Phase) (s : State) : State := { s with phase := p }

@[simp] theorem setPhase_phase (p : Phase) (s : State) : (setPhase p s).phase = p := rfl
@[simp] theorem setPhase_pcnt (p : Phase) (s : State) : (setPhase p s).pcnt = s.pcnt := rfl
@[simp] theorem setPhase_xtra (p : Phase) (s : State) : (setPhase p s).xtra = s.xtra := rfl
@[simp] theorem setPhase_sck (p : Phase) (s : State) : (setPhase p s).sck = s.sck := rfl
@[simp] theorem setPhase_handshake (p : Phase) (s : State) : (setPhase p s).handshake = s.handshake := rfl
@[simp] theorem setPhase_responses (p : Phase) (s : State) : (setPhase p s).responses = s.responses := rfl
@[simp] theorem setPhase_setPhase (p q : Phase) (s : State) : setPhase p (setPhase q s) = setPhase p s := rfl
@[simp] theorem dataPulse_setPhase (p : Phase) (s : State) : dataPulse (setPhase p s) = setPhase p (dataPulse s) := rfl
@[simp] theorem gainPulse_setPhase (p : Phase) (s : State) : gainPulse (setPhase p s) = setPhase p (gainPulse s) := rfl

theorem setPhase_self {p : Phase} {s : State} (h : s.phase = p) : setPhase p s = s := by
  subst h; rfl

/-- With pulses left, a transition from IDLE or LOW is a rising edge (R86). -/
theorem seqStep_rises {s : State} (hp : s.phase ≠ .high) (hn : s.pcnt.toNat < pulseTotal s) :
    seqStep s = risingEdge s := by
  unfold seqStep
  split
  · contradiction
  · exact if_pos hn
  · exact if_pos hn

/-- A transition from HIGH is a falling edge (R87). -/
theorem seqStep_falls {s : State} (hp : s.phase = .high) : seqStep s = fallingEdge s := by
  unfold seqStep
  split <;> simp_all

/-- With no pulses left, a transition from LOW ends the transfer (R89). -/
theorem seqStep_finishes {s : State} (hp : s.phase = .low) (hn : s.pcnt.toNat = pulseTotal s) :
    seqStep s = transferFinish s := by
  unfold seqStep
  split <;> simp_all

theorem pulseTotal_lt (s : State) : pulseTotal s < 32 := by
  have := s.xtra.isLt
  simp [pulseTotal, Config.dataBits]
  omega

theorem pcnt_succ {s : State} (hn : s.pcnt.toNat < pulseTotal s) : (s.pcnt + 1).toNat = s.pcnt.toNat + 1 := by
  have := pulseTotal_lt s
  rw [BitVec.toNat_add]
  simp
  omega

/-- Two edges of a data pulse (R86, R87, R88). -/
theorem seqStep_dataPulse {s : State} (hp : s.phase ≠ .high) (hn : s.pcnt.toNat < 24) :
    seqStep (seqStep s) =
      setPhase .low (if s.pcnt.toNat + 1 = 24 then commitSample (dataPulse s) else dataPulse s) := by
  have ht : s.pcnt.toNat < pulseTotal s := by
    simp only [pulseTotal, Config.dataBits]
    omega
  have e : countPulse (setPhase .low (sckWrite .low (sampleIfData (risingEdge s)))) = setPhase .low (dataPulse s) := by
    rw [sampleIfData, if_pos (show (risingEdge s).pcnt.toNat < Config.dataBits from hn)]
    rfl
  have hc : (setPhase .low (dataPulse s)).pcnt.toNat = s.pcnt.toNat + 1 := pcnt_succ ht
  rw [seqStep_rises hp ht, seqStep_falls rfl]
  change commitIfComplete (countPulse (setPhase .low (sckWrite .low (sampleIfData (risingEdge s))))) = _
  rw [e, commitIfComplete, hc, Config.dataBits]
  by_cases h : s.pcnt.toNat + 1 = 24
  · rw [if_pos h, if_pos h]
    rfl
  · rw [if_neg h, if_neg h]

/-- Two edges of a gain pulse (R86, R87). -/
theorem seqStep_gainPulse {s : State} (hp : s.phase ≠ .high) (h24 : 24 ≤ s.pcnt.toNat)
    (hn : s.pcnt.toNat < pulseTotal s) : seqStep (seqStep s) = setPhase .low (gainPulse s) := by
  have e : countPulse (setPhase .low (sckWrite .low (sampleIfData (risingEdge s)))) = setPhase .low (gainPulse s) := by
    rw [sampleIfData, if_neg (show ¬ (risingEdge s).pcnt.toNat < Config.dataBits by
      simp only [risingEdge_pcnt, Config.dataBits]; omega)]
    rfl
  have hc : (setPhase .low (gainPulse s)).pcnt.toNat = s.pcnt.toNat + 1 := pcnt_succ hn
  rw [seqStep_rises hp hn, seqStep_falls rfl]
  change commitIfComplete (countPulse (setPhase .low (sckWrite .low (sampleIfData (risingEdge s))))) = _
  rw [e, commitIfComplete, hc, if_neg (by simp only [Config.dataBits]; omega)]

theorem times_two_mul_succ (k : Nat) (f : State → State) (s : State) :
    times (2 * (k + 1)) f s = f (f (times (2 * k) f s)) := by
  rw [show 2 * (k + 1) = 2 * k + 1 + 1 by omega, times_succ_last, times_succ_last]

theorem times_dataPulse_pcnt (n : Nat) (s : State) : (times n dataPulse s).pcnt = s.pcnt + BitVec.ofNat 5 n := by
  rw [times_dataPulse]

/-- The pulses of a transfer that has started, k of them complete. -/
def pulsesDone (k : Nat) (s : State) : State :=
  if k < 24 then times k dataPulse s else times (k - 24) gainPulse (commitSample (times 24 dataPulse s))

theorem pulsesDone_pcnt {s : State} (h0 : s.pcnt = 0) {k : Nat} (hk : k < 32) : (pulsesDone k s).pcnt.toNat = k := by
  unfold pulsesDone
  split
  · rw [times_dataPulse, h0]
    simp
    omega
  · rw [times_gainPulse, times_dataPulse, h0]
    simp
    omega

theorem pulsesDone_xtra (s : State) (k : Nat) : (pulsesDone k s).xtra = s.xtra := by
  unfold pulsesDone
  split
  · rw [times_dataPulse]
  · rw [times_gainPulse, times_dataPulse]; rfl

theorem pulsesDone_responses (s : State) (k : Nat) : (pulsesDone k s).responses = s.responses := by
  unfold pulsesDone
  split
  · rw [times_dataPulse]
  · rw [times_gainPulse, times_dataPulse]; rfl

theorem pulsesDone_handshake (s : State) (k : Nat) : (pulsesDone k s).handshake = s.handshake := by
  unfold pulsesDone
  split
  · rw [times_dataPulse]
  · rw [times_gainPulse, times_dataPulse]; rfl

/-- What stands at the ports after k pulses: only samples of the data line have been taken, one for each data pulse, and
only events added. -/
theorem pulsesDone_ports (s : State) (k : Nat) :
    (pulsesDone k s).inputs = s.inputs ∧ (pulsesDone k s).clockScript = s.clockScript ∧
    (pulsesDone k s).clockCount = s.clockCount ∧ (pulsesDone k s).doutCount = s.doutCount + min 24 k ∧
    s.trace <+: (pulsesDone k s).trace := by
  unfold pulsesDone
  split
  · rw [times_dataPulse]
    exact ⟨rfl, rfl, rfl, by simp only; omega, List.prefix_append _ _⟩
  · rw [times_gainPulse, times_dataPulse]
    refine ⟨rfl, rfl, rfl, by simp only [commitSample_doutCount]; omega, ?_⟩
    exact (List.prefix_append _ _).trans (List.prefix_append _ _)

theorem pulsesDone_sck (s : State) {k : Nat} (hk : k ≠ 0) : (pulsesDone k s).sck = .low := by
  unfold pulsesDone
  split
  · rw [times_dataPulse]
    exact if_neg hk
  · rw [times_gainPulse, times_dataPulse]
    simp

/-- After two edges for each of k pulses, the sequencer is LOW with exactly those pulses done (R86 to R88). -/
theorem seq_pulses {s : State} (hp : s.phase ≠ .high) (h0 : s.pcnt = 0) :
    ∀ k, k ≤ pulseTotal s → times (2 * k) seqStep s = setPhase (if k = 0 then s.phase else .low) (pulsesDone k s) := by
  intro k
  induction k with
  | zero => intro _; rfl
  | succ k ih =>
    intro hk
    have hlt := pulseTotal_lt s
    rw [times_two_mul_succ, ih (by omega)]
    generalize hq : (if k = 0 then s.phase else Phase.low) = q
    have hqh : q ≠ .high := by
      subst hq; split
      · exact hp
      · decide
    have hc : (setPhase q (pulsesDone k s)).pcnt.toNat = k := pulsesDone_pcnt h0 (by omega)
    have ht : pulseTotal (setPhase q (pulsesDone k s)) = pulseTotal s := by
      simp [pulseTotal, pulsesDone_xtra]
    rw [if_neg (by omega)]
    rcases Nat.lt_or_ge k 24 with h | h
    · rw [seqStep_dataPulse hqh (by rw [hc]; exact h), hc]
      rcases Nat.lt_or_ge (k + 1) 24 with h' | h'
      · rw [if_neg (by omega), pulsesDone, pulsesDone, if_pos h, if_pos h', times_succ_last]
        rfl
      · have : k = 23 := by omega
        subst this
        rw [if_pos rfl, pulsesDone, pulsesDone, if_pos (by decide), if_neg (by decide), times_succ_last 23]
        rfl
    · rw [seqStep_gainPulse hqh (by rw [hc]; exact h) (by rw [hc, ht]; omega)]
      rw [gainPulse_setPhase, setPhase_setPhase, pulsesDone, pulsesDone, if_neg (by omega), if_neg (by omega),
        show k + 1 - 24 = (k - 24) + 1 by omega, times_succ_last (k - 24)]

/-- What stands at the ports after k edges, whatever pulse they stop in. -/
theorem seq_edges_ports {s : State} (hp : s.phase ≠ .high) (h0 : s.pcnt = 0) {k : Nat} (hk : k ≤ 2 * pulseTotal s) :
    let t := times k seqStep s
    t.inputs = s.inputs ∧ t.clockScript = s.clockScript ∧ t.clockCount = s.clockCount ∧ t.responses = s.responses ∧
    t.doutCount = s.doutCount + min 24 (k / 2) ∧ s.trace <+: t.trace := by
  have hlt := pulseTotal_lt s
  intro t
  rcases Nat.even_or_odd' k with ⟨m, hm | hm⟩
  · have e : t = setPhase (if m = 0 then s.phase else .low) (pulsesDone m s) := by
      simp only [t, hm]
      exact seq_pulses hp h0 m (by omega)
    obtain ⟨h1, h2, h3, h4, h5⟩ := pulsesDone_ports s m
    rw [e, show k / 2 = m by omega]
    exact ⟨h1, h2, h3, pulsesDone_responses s m, h4, h5⟩
  · have hq : (if m = 0 then s.phase else Phase.low) ≠ .high := by
      split
      · exact hp
      · decide
    have e : t = risingEdge (setPhase (if m = 0 then s.phase else .low) (pulsesDone m s)) := by
      simp only [t, hm]
      rw [times_succ_last, seq_pulses hp h0 m (by omega), seqStep_rises hq]
      rw [setPhase_pcnt, pulsesDone_pcnt h0 (by omega), pulseTotal, setPhase_xtra, pulsesDone_xtra]
      have : m < pulseTotal s := by omega
      exact this
    obtain ⟨h1, h2, h3, h4, h5⟩ := pulsesDone_ports s m
    rw [e, show k / 2 = m by omega]
    exact ⟨h1, h2, h3, pulsesDone_responses s m, h4, h5.trans (List.prefix_append _ _)⟩

/-- A transfer by edges ends where the transfer by pulses ends (R85 to R89). -/
theorem transferByEdges_eq {s : State} (hp : s.phase = .idle) : transferByEdges s = transfer s := by
  have h0 : (transferStart s).pcnt = 0 := rfl
  have hi : (transferStart s).phase ≠ .high := by simp [hp]
  have hk : pulseTotal (transferStart s) ≠ 0 := by simp [pulseTotal, Config.dataBits]
  have hlt := pulseTotal_lt (transferStart s)
  have hn : (setPhase .low (pulsesDone (pulseTotal (transferStart s)) (transferStart s))).pcnt.toNat =
      pulseTotal (setPhase .low (pulsesDone (pulseTotal (transferStart s)) (transferStart s))) := by
    rw [setPhase_pcnt, pulsesDone_pcnt h0 hlt]
    simp [pulseTotal, pulsesDone_xtra]
  rw [transferByEdges, edgeTotal, times_succ_last, seq_pulses hi h0 _ (Nat.le_refl _), if_neg hk,
    seqStep_finishes (setPhase_phase _ _) hn]
  have ht : pulseTotal (transferStart s) = 24 + s.gainMode.toNat := rfl
  rw [transfer, pulsesDone, if_neg (by omega), ht, Nat.add_sub_cancel_left]
  rfl

end Sys2Proof.Machine
end

