-- ==== Sys2Proof/Laws/Step.lean ====
section
/-! SUPPORT. What a step can do (00_scope.md R6, R10), and how a run is made of steps. -/

namespace Sys2Proof.Machine

/-- The machine's own legality test of a gain code and the syntax's agree (R57, R91). -/
theorem gainLegal_eq_wellFormed (arg : Word) : gainLegal arg = (Instr.setGain arg).wellFormed := by
  rw [Bool.eq_iff_iff]
  simp only [gainLegal, Instr.wellFormed, GainName.all, List.any_cons, List.any_nil, GainName.operand,
    GainName.extraPulses, Bool.or_eq_true, Bool.and_eq_true, decide_eq_true_eq, beq_iff_eq, ← BitVec.toNat_inj]
  simp
  omega

/-- SETGAIN's two ways (R91). -/
theorem execSetGain_cases (arg : Word) (s : State) :
    (1 ≤ arg.toNat ∧ arg.toNat ≤ 5 ∧
      execSetGain arg s =
        .next (respond true true 0 (clearPending (setStatus .initializing { s with gainMode := gainCode arg })))) ∨
    ((arg.toNat < 1 ∨ 5 < arg.toNat) ∧ execSetGain arg s = .next (respond false true 0 s)) := by
  by_cases h : 1 ≤ arg.toNat ∧ arg.toNat ≤ 5
  · have hg : gainLegal arg = true := by simp [gainLegal, h.1, h.2]
    exact .inl ⟨h.1, h.2, by rw [execSetGain, if_pos hg]; rfl⟩
  · have hg : ¬ gainLegal arg = true := by simp [gainLegal]; omega
    exact .inr ⟨by omega, by rw [execSetGain, if_neg hg]; rfl⟩

/-- Every step of a ready block: waiting, a command, a reserved opcode, reset, or an abandoned transfer. -/
theorem step_ready_cases {s : State} (hr : cmdReadyO s = true) :
    (s.inputs = [] ∧ step s = .next s) ∨
    (∃ w rest i, s.inputs = .command w :: rest ∧ decode w = some i ∧ step s = exec i (accept rest s)) ∨
    (∃ w rest, s.inputs = .command w :: rest ∧ decode w = none ∧
      step s = .next (respond false true 0 (accept rest s))) ∨
    (∃ rest, s.inputs = .reset :: rest ∧ step s = .next (blockReset (setInputs rest s))) ∨
    (∃ edges rest, s.inputs = .pollCutByReset edges :: rest ∧
      step s = .next (pollCutByReset edges (accept rest s))) := by
  rcases hi : s.inputs with _ | ⟨w | _ | edges, rest⟩
  · exact .inl ⟨rfl, by simp [step, hi, hr]⟩
  · have e : step s = issue w (accept rest s) := by simp [step, hi, hr]
    cases hd : decode w with
    | none => exact .inr (.inr (.inl ⟨w, rest, rfl, hd, by rw [e, issue, hd]; rfl⟩))
    | some i => exact .inr (.inl ⟨w, rest, i, rfl, hd, by rw [e, issue, hd]⟩)
  · exact .inr (.inr (.inr (.inl ⟨rest, rfl, by simp only [step, hi]⟩)))
  · exact .inr (.inr (.inr (.inr ⟨edges, rest, rfl, by simp [step, hi, hr]⟩)))

/-- A block that is not ready, and is not reset, goes on with its transfer (R10, R85; log 10). -/
theorem step_busy {s : State} (hr : cmdReadyO s = false) (hi : ∀ rest, s.inputs ≠ .reset :: rest) :
    step s = continueTransfer s := by
  rcases h : s.inputs with _ | ⟨w | _ | edges, rest⟩
  · simp [step, h, hr]
  · simp [step, h, hr]
  · exact absurd h (hi rest)
  · simp [step, h, hr]

/-- A step that completes, and the rest of the run. -/
theorem run_succ_of_step {M : Host.Core} {s t : M.State} (h : M.step s = .next t) (n : Nat) :
    M.run (n + 1) s = M.run n t := by
  show (match M.step s with | .next s' => M.run n s' | .fault r => .fault r | .refused r => .refused r) = M.run n t
  rw [h]

end Sys2Proof.Machine
end

