-- ==== Sys2Proof/Tests/Slice0.lean ====
section
/-! SUPPORT. Tests. Expected values are the spec's own (95_test_vectors.md and the rules named), never the model's. Then, for
each statement with hypotheses, a state and operands that meet them. -/

namespace Sys2Proof.Tests

open Sys2Proof.Machine

/-- The state a command leaves, if it completes. -/
def after (o : Host.Outcome State Fault Refusal) : Option State :=
  match o with
  | .next t => some t
  | .fault _ | .refused _ => none

/-- The latest response. -/
def lastResponse (o : Host.Outcome State Fault Refusal) : Option Response := (after o).bind (·.responses.getLast?)

/-- The data of the latest response. -/
def lastData (o : Host.Outcome State Fault Refusal) : Option Word := (lastResponse o).map (·.data)

/-- The 24 samples of a count, most significant bit first (the `bits=` of R61). -/
def bits (c : BitVec 24) : List Level := (List.range 24).map fun k => if c.getMsbD k then .high else .low

/-- The reset state with a factor (`SMF_INIT` is open). -/
def base : State := { State.reset with smoothingFactor := 128 }

/-- `base` with a chip ready, that sends the count, and the clock at `t` (`dout=0 bits=c t=t` of R61). -/
def ready (c : BitVec 24) (t : Word) : State := { base with doutScript := .low :: bits c, clockScript := [t] }

/-- `base` with a busy chip and the clock at `t` (`dout=1 t=t` of R61). -/
def busyAt (t : Word) : State := { base with doutScript := [.high], clockScript := [t] }

/-! ### Well-formedness: an ill-formed term for the one check there is (R57, R91; T-CF-1 to T-CF-3) -/

theorem test_gain_0_ill_formed : (Instr.setGain 0).wellFormed = false := by decide
theorem test_gain_6_ill_formed : (Instr.setGain 6).wellFormed = false := by decide
theorem test_gain_high_bit_ill_formed : (Instr.setGain 0x80000001).wellFormed = false := by decide
theorem test_gain_5_well_formed : (Instr.setGain 5).wellFormed = true := by decide

/-! ### Decoding: a word of each command, written out from R54 and R58, and reserved words (T-CF-14 to T-CF-18) -/

theorem test_decode_poll : decodeTableWord 40 0x0100000000 = some .poll := by decide
theorem test_decode_getStatus : decodeTableWord 40 0x02DEADBEEF = some .getStatus := by decide
theorem test_decode_setGain : decodeTableWord 40 0x0400000003 = some (.setGain 3) := by decide
theorem test_decode_getGain : decodeTableWord 40 0x0500000000 = some .getGain := by decide
theorem test_decode_pwrDn : decodeTableWord 40 0x0600000000 = some .pwrDn := by decide
theorem test_decode_pwrUp : decodeTableWord 40 0x0700000000 = some .pwrUp := by decide
theorem test_decode_setReq : decodeTableWord 40 0x08000001FF = some (.setReq 0x1FF) := by decide
theorem test_decode_getReq : decodeTableWord 40 0x0900000000 = some .getReq := by decide
theorem test_decode_setSmf : decodeTableWord 40 0x0A00000040 = some (.setSmf 64) := by decide
theorem test_decode_getSmf : decodeTableWord 40 0x0B00000000 = some .getSmf := by decide
theorem test_decode_getRaw : decodeTableWord 40 0x1000000000 = some .getRaw := by decide
theorem test_decode_getSmoothed : decodeTableWord 40 0x1100000000 = some .getSmoothed := by decide
theorem test_decode_tareR : decodeTableWord 40 0x1200000000 = some .tareR := by decide
theorem test_decode_tareS : decodeTableWord 40 0x1300000000 = some .tareS := by decide
theorem test_decode_setTare : decodeTableWord 40 0x14FFFF9C00 = some (.setTare (-25600)) := by decide
theorem test_decode_getTare : decodeTableWord 40 0x1500000000 = some .getTare := by decide
theorem test_decode_getMtR : decodeTableWord 40 0x1600000000 = some .getMtR := by decide
theorem test_decode_getMtS : decodeTableWord 40 0x1700000000 = some .getMtS := by decide
theorem test_decode_adjR : decodeTableWord 40 0x18FFFFFFFE = some (.adjR (-2)) := by decide
theorem test_decode_adjS : decodeTableWord 40 0x1900000041 = some (.adjS 65) := by decide
theorem test_decode_setScale : decodeTableWord 40 0x1AFFFFFFFB = some (.setScale (-5)) := by decide
theorem test_decode_getScale : decodeTableWord 40 0x1B00000000 = some .getScale := by decide
theorem test_decode_getAdjR : decodeTableWord 40 0x1C00000000 = some .getAdjR := by decide
theorem test_decode_getAdjS : decodeTableWord 40 0x1D00000000 = some .getAdjS := by decide
theorem test_reserved_00 : decodeTableWord 40 0x0012345678 = none := by decide
theorem test_reserved_03 : decodeTableWord 40 0x0300000000 = none := by decide
theorem test_reserved_0C : decodeTableWord 40 0x0C00000000 = none := by decide
theorem test_reserved_0F : decodeTableWord 40 0x0F00000000 = none := by decide
theorem test_reserved_1E : decodeTableWord 40 0x1E00000000 = none := by decide
theorem test_reserved_FF : decodeTableWord 40 0xFFFFFFFFFF = none := by decide
theorem test_encode_adjR : encode (.adjR (-2)) = 0x18FFFFFFFE := by decide
theorem test_first_step_runs_poll : (after (step (State.reset.withFetchWord 40 0x0100000000))).isSome = true := by decide
theorem test_first_step_runs_getGain :
    lastResponse (step (State.reset.withFetchWord 40 0x0500000000)) = some ⟨true, true, 1⟩ := by decide
theorem test_reserved_answer :
    lastResponse (step (State.reset.withFetchWord 40 0x0012345678)) = some ⟨false, true, 0⟩ := by decide

/-! ### Arithmetic (T-AR) -/

theorem test_sub32_wraps : sub32 0x7FFFFF00 0x80000000 = 0xFFFFFF00 := by decide
theorem test_add32_wraps : add32 0x80000000 (-255) = 0x7FFFFF01 := by decide
theorem test_sdiv32_negative : sdiv32 (-7) 2 = -3 := by decide
theorem test_sdiv32_toward_zero : sdiv32 (-257) 256 = -1 := by decide
theorem test_sdiv32_overflow : sdiv32 0x80000000 (-1) = 0x80000000 := by decide
theorem test_mul32_largest : mul32 (-8388608) 255 = 0x80800000 := by decide
theorem test_elapsed_across_wrap : elapsedMs 0x64 0xFFFFFF9C = 200 := by decide
theorem test_elapsed_clock_stepped_back : elapsedMs 0x44C 0x641 = 4294966795 := by decide

/-! ### The filter (R102, T-FI) -/

theorem test_smooth_half : smooth 128000 256256 128 = 192128 := by decide
theorem test_smooth_truncates : smooth 300 0 255 = 45 := by decide
theorem test_smooth_divides_first : smooth 112000 256000 64 = 147968 := by decide
theorem test_smooth_wraps_away : smooth 0x80000000 0x7FFFFF00 255 = 0x7FFFFF01 := by decide

/-! ### POLL (T-PO) -/

theorem test_poll_first_warm_up : (after (exec .poll (ready 0x0003E8 40))).map (fun t =>
    (t.rawSample, t.cycleStartTime, t.pendingReadCount, t.smoothedSample, t.status)) =
    some (0x0003E800, 40, 1, 0, .initializing) := by decide
theorem test_poll_sign_kept : (after (exec .poll (ready 0x800000 5))).map (·.rawSample) = some 0x80000000 := by decide
theorem test_poll_bit_order : (after (exec .poll (ready 0x123456 77))).map (·.rawSample) = some 0x12345600 := by decide
set_option maxRecDepth 2000 in
theorem test_poll_29_pulses : (after (exec .poll { ready 0x123456 77 with gainMode := 5 })).map (fun t =>
    t.trace.count (.sck .high)) = some 29 := by decide
theorem test_poll_seeds : (after (exec .poll { ready 0x0003E8 5 with requiredReadCount := 1 })).map (fun t =>
    (t.smoothedSample, t.status, t.responses)) = some (256000, .valid, [⟨true, true, 0⟩]) := by decide
theorem test_poll_elapsed_500 : (after (exec .poll { busyAt 1500 with cycleStartTime := 1000, status := .valid })).map
    (fun t => (t.status, t.responses)) = some (.valid, [⟨true, false, 0⟩]) := by decide
theorem test_poll_elapsed_501 : (after (exec .poll { busyAt 1501 with cycleStartTime := 1000, status := .valid })).map
    (fun t => (t.status, t.cycleStartTime, t.responses)) = some (.timedOut, 1000, [⟨true, true, 0⟩]) := by decide
set_option maxRecDepth 2000 in
theorem test_poll_recovers : (after (exec .poll { ready 0x000064 7000 with status := .timedOut, pendingReadCount := 2 })).map
    (fun t => (t.status, t.pendingReadCount, t.rawSample)) = some (.initializing, 1, 25600) := by decide
theorem test_poll_timedOut_stays : (after (exec .poll
    { busyAt 1200 with cycleStartTime := 1000, status := .timedOut, pendingReadCount := 2 })).map
    (fun t => (t.status, t.pendingReadCount)) = some (.timedOut, 2) := by decide
theorem test_poll_power_check_first : (after (exec .poll { base with sck := .high, status := .timedOut, pendingReadCount := 2 })).map
    (fun t => (t.status, t.pendingReadCount, t.trace)) = some (.poweredDown, 2, []) := by decide
set_option maxRecDepth 2000 in
theorem test_poll_valid_during_warm_up : (after (exec .poll
    { ready 0x0007D0 5 with status := .valid, pendingReadCount := 3, requiredReadCount := 5, smoothedSample := 256000 })).map
    (fun t => (t.status, t.pendingReadCount, t.smoothedSample)) = some (.valid, 4, 256000) := by decide
set_option maxRecDepth 2000 in
theorem test_poll_blends : (after (exec .poll
    { ready 0x0003E9 5 with status := .valid, pendingReadCount := 3, smoothedSample := 128000 })).map
    (fun t => (t.smoothedSample, t.status)) = some (192128, .valid) := by decide
set_option maxRecDepth 2000 in
theorem test_poll_required_0_blends : (after (exec .poll { ready 0x0003E8 5 with requiredReadCount := 0 })).map
    (fun t => (t.smoothedSample, t.pendingReadCount)) = some (128000, 0) := by decide

/-! ### Configuration (T-CF) -/

theorem test_setGain_from_timedOut : (after (exec (.setGain 4) { base with status := .timedOut, pendingReadCount := 1 })).map
    (fun t => (t.gainMode, t.status, t.pendingReadCount, t.trace)) = some (4, .initializing, 0, []) := by decide
theorem test_setGain_refused : (after (exec (.setGain 6) { base with status := .valid, pendingReadCount := 3 })).map
    (fun t => (t.gainMode, t.status, t.pendingReadCount, t.responses)) = some (1, .valid, 3, [⟨false, true, 0⟩]) := by decide
theorem test_setReq_low_byte : (after (exec (.setReq 256) base)).map (·.requiredReadCount) = some 0 := by decide
theorem test_setSmf_low_byte : (after (exec (.setSmf 0x1FF) base)).map (·.smoothingFactor) = some 255 := by decide
theorem test_getSmf : lastData (exec .getSmf { base with smoothingFactor := 64 }) = some 64 := by decide
theorem test_getReq : lastData (exec .getReq base) = some 3 := by decide
theorem test_getGain : lastData (exec .getGain base) = some 1 := by decide
theorem test_getStatus_timedOut : lastData (exec .getStatus { base with status := .timedOut }) = some 3 := by decide
theorem test_pwrDn : (after (exec .pwrDn { base with status := .valid })).map (fun t => (t.sck, t.status, t.trace)) =
    some (.high, .valid, [.sck .high]) := by decide
theorem test_pwrUp : (after (exec .pwrUp
    { base with status := .poweredDown, pendingReadCount := 3, sck := .high, clockScript := [0xFFFFFFF0] })).map
    (fun t => (t.sck, t.status, t.pendingReadCount, t.cycleStartTime, t.trace)) =
    some (.low, .initializing, 0, 0xFFFFFFF0, [.sck .low]) := by decide

/-! ### Readings and calibration (T-CA) -/

theorem test_getRaw : lastData (exec .getRaw { base with rawSample := 0xFFFC1800 }) = some (-1000) := by decide
theorem test_getSmoothed : lastData (exec .getSmoothed { base with smoothedSample := -63900 }) = some (-249) := by decide
theorem test_tareR : (after (exec .tareR { base with rawSample := 0xFFFC1800 })).map (·.tareOffset) = some 0xFFFC1800 := by decide
theorem test_tareS : (after (exec .tareS { base with smoothedSample := 0x2EE80 })).map (·.tareOffset) = some 0x2EE80 := by decide
theorem test_setTare : (after (exec (.setTare 0xFFFF9C00) base)).map (·.tareOffset) = some 0xFFFF9C00 := by decide
theorem test_getTare : lastData (exec .getTare { base with tareOffset := 25600 }) = some 0x6400 := by decide
theorem test_getMtR_wraps : lastData (exec .getMtR { base with rawSample := 0x7FFFFF00, tareOffset := 0x80000000 }) =
    some (-1) := by decide
theorem test_getMtS_truncates : lastData (exec .getMtS { base with smoothedSample := 255765, tareOffset := 256000 }) =
    some 0 := by decide
theorem test_adjR_negative : (after (exec (.adjR (-2)) { base with rawSample := 256000 })).map (·.scaleFactor) =
    some (-128000) := by decide
theorem test_adjR_both_guards : (after (exec (.adjR 0) { base with rawSample := 256000, tareOffset := 256000, scaleFactor := 9 })).map
    (·.scaleFactor) = some 1 := by decide
theorem test_adjS : (after (exec (.adjS 65) { base with smoothedSample := 192128, tareOffset := 25600 })).map (·.scaleFactor) =
    some 2561 := by decide
theorem test_setScale_zero : (after (exec (.setScale 0) { base with scaleFactor := 7 })).map (·.scaleFactor) = some 1 := by decide
theorem test_getScale : lastData (exec .getScale { base with scaleFactor := -5 }) = some (-5) := by decide
theorem test_getAdjR : lastData (exec .getAdjR { base with rawSample := -256000, tareOffset := 256000, scaleFactor := 2560 }) =
    some (-200) := by decide
theorem test_getAdjS : lastData (exec .getAdjS { base with smoothedSample := 192128, tareOffset := 25600, scaleFactor := 2561 }) =
    some 65 := by decide

/-! ### Reset in a transfer, and the response word (R135, R56) -/

theorem test_reset_abandons_transfer : (after (step
    { ready 0xFFFFFF 9 with inputs := [.pollCutByReset 7], pendingReadCount := 2 })).map
    (fun t => (t.responses, t.pendingReadCount, t.pcnt, t.sck, t.doutCount)) = some ([], 0, 0, .low, 4) := by decide
theorem test_no_response_after_reset : (after (step
    { base with inputs := [.reset], handshake := .answered, responses := [⟨true, true, 7⟩] })).map
    (fun t => (rspValidO t, rspO t, cmdReadyO t)) = some (false, none, true) := by decide
theorem test_not_ready_from_start : cmdReadyO (transferStart base) = false ∧ rspValidO (transferStart base) = false := by decide
theorem test_response_present : (after (exec .getReq base)).map (fun t => (rspValidO t, rspO t, cmdReadyO t)) =
    some (true, some 0x300000003, true) := by decide
theorem test_packed_response : packResponse ⟨true, false, 5⟩ = 0x200000005 := by decide
theorem test_ports_between_commands : cmdReadyO base = true ∧ sckO base = .low ∧ rspValidO base = false ∧
    cmdI { base with inputs := [.command 0x0100000000] } = some 0x0100000000 := by decide

/-! ### Witnesses: states and operands that meet the hypotheses of the statements -/

theorem witness_WordIsOpcodeAndOperand : decode 0x0400000003 = some (.setGain 3) ∧ usesOperand (.setGain 3) = true ∧
    decode 0x02DEADBEEF = some .getStatus ∧ usesOperand .getStatus = false := by decide

/-- A ready block with a command for it. -/
def commanded (w : CommandWord) : State := { base with inputs := [.command w] }

theorem witness_StepRunsDecodedCommand : cmdReadyO (commanded 0x0100000000) = true ∧
    (commanded 0x0100000000).inputs = .command 0x0100000000 :: [] ∧ decode 0x0100000000 = some .poll := by decide
theorem witness_ReservedOpcodeAnsweredWithoutEffect : cmdReadyO (commanded 0x1E00000000) = true ∧
    (commanded 0x1E00000000).inputs = .command 0x1E00000000 :: [] ∧ decode 0x1E00000000 = none := by decide
theorem witness_IdleBlockWaits : cmdReadyO base = true ∧ base.inputs = [] := by decide
theorem witness_ResetSetsEveryRegister : ({ base with inputs := [.reset] } : State).inputs = .reset :: [] := by decide

/-- A block about to be reset that many edges into a transfer. -/
def cut (edges : Nat) : State := { ready 0x123456 9 with inputs := [.pollCutByReset edges] }

theorem witness_ResetAbandonsTransfer_first : cmdReadyO (cut 0) = true ∧ (cut 0).inputs = .pollCutByReset 0 :: [] ∧
    (cut 0).sck = .low ∧ doutAt (cut 0) 0 = .low ∧ 0 ≤ 2 * (24 + (cut 0).gainMode.toNat) := by decide
theorem witness_ResetLeavesNoResponsePending : ({ base with inputs := [.reset] } : State).inputs = .reset :: [] ∧
    cmdReadyO (cut 7) = true ∧ (cut 7).inputs = .pollCutByReset 7 :: [] := by decide
theorem witness_NothingRunsUnlessPresented : cmdReadyO base = true ∧ cmdValidI base = false ∧ base.inputs = [] ∧
    (cut 7).inputs = .pollCutByReset 7 :: [] ∧ (commanded 0x0100000000).inputs = .command 0x0100000000 :: [] := by decide
theorem test_cut_poll_is_presented : cmdValidI (cut 7) = true ∧ cmdI (cut 7) = some 0x0100000000 := by decide
theorem witness_ResetAbandonsTransfer_last : cmdReadyO (cut 50) = true ∧ (cut 50).inputs = .pollCutByReset 50 :: [] ∧
    (cut 50).sck = .low ∧ doutAt (cut 50) 0 = .low ∧ 50 = 2 * (24 + (cut 50).gainMode.toNat) := by decide

theorem base_inv : BlockInv base := 
  ⟨by decide, by decide, by decide, by decide, by decide, by decide, by decide⟩

/-- For EveryStepKeepsInvariants and NoRunStops. -/
theorem witness_EveryStepKeepsInvariants : BlockInv base ∧ step base = .next base := ⟨base_inv, rfl⟩

set_option maxRecDepth 4000 in
/-- For RegistersHaveOnlyTheirWriters: for each of its rows a command that changes what the row is about. -/
theorem witness_RegistersHaveOnlyTheirWriters_poll :
    (after (exec .poll { ready 0x0003E8 40 with requiredReadCount := 1, phase := .low })).map (fun t =>
      decide (t.rawSample ≠ 0 ∧ t.smoothedSample ≠ 0 ∧ t.status ≠ .initializing ∧ t.pendingReadCount ≠ 0 ∧
        t.cycleStartTime ≠ 0 ∧ t.shreg ≠ 0 ∧ t.pcnt ≠ 0 ∧ t.xtra ≠ 0 ∧ t.phase ≠ .low ∧ t.trace ≠ [] ∧
        t.doutScript = [] ∧ t.doutCount ≠ 0 ∧ t.clockScript = [] ∧ t.clockCount ≠ 0)) = some true := by decide
theorem witness_RegistersHaveOnlyTheirWriters_others :
    (after (exec (.setTare 5) base)).map (·.tareOffset) = some 5 ∧
    (after (exec (.setScale 5) base)).map (·.scaleFactor) = some 5 ∧
    (after (exec (.setGain 5) base)).map (·.gainMode) = some 5 ∧
    (after (exec (.setReq 5) base)).map (·.requiredReadCount) = some 5 ∧
    (after (exec (.setSmf 5) base)).map (·.smoothingFactor) = some 5 ∧
    (after (exec .pwrDn base)).map (·.sck) = some .high ∧
    base.tareOffset ≠ 5 ∧ base.scaleFactor ≠ 5 ∧ base.gainMode ≠ 5 ∧ base.requiredReadCount ≠ 5 ∧
    base.smoothingFactor ≠ 5 ∧ base.sck ≠ .high := by decide
theorem witness_GetCommandsArePure : Instr.getTare ∈ [Instr.getStatus, .getTare] ∧
    exec .getTare base = .next { base with handshake := .answered, responses := [⟨true, true, 0⟩] } := ⟨by decide, rfl⟩

/-- For StatusTransitionRelation, PollBusyCheck: the two sides of the 500 ms boundary (T-PO-2, T-PO-3). -/
def busyFrom1000 (t : Word) : State := { busyAt t with cycleStartTime := 1000 }

theorem witness_PollBusyCheck_timedOut : (busyFrom1000 1501).sck = .low ∧ doutAt (busyFrom1000 1501) 0 = .high ∧
    500 < elapsedSince (busyFrom1000 1501) 0 := by decide
theorem witness_PollBusyCheck_busy : (busyFrom1000 1500).sck = .low ∧ doutAt (busyFrom1000 1500) 0 = .high ∧
    elapsedSince (busyFrom1000 1500) 0 ≤ 500 := by decide
theorem witness_StatusTransitionRelation_gain : (1 ≤ (1 : Word).toNat ∧ (1 : Word).toNat ≤ 5) ∧
    (1 ≤ (5 : Word).toNat ∧ (5 : Word).toNat ≤ 5) ∧ ((0 : Word).toNat < 1 ∨ 5 < (0 : Word).toNat) ∧
    ((6 : Word).toNat < 1 ∨ 5 < (6 : Word).toNat) := by decide
theorem witness_StatusTransitionRelation_other : Instr.pwrDn ≠ .poll ∧ Instr.pwrDn ≠ .pwrUp ∧
    exec .pwrDn base = .next { base with sck := .high, trace := [.sck .high], handshake := .answered, responses := [⟨true, true, 0⟩] } :=
  ⟨by decide, by decide, rfl⟩

/-- A timed-out block. -/
def timedOut (s : State) : State := { s with status := .timedOut, pendingReadCount := 2 }

theorem witness_WaysOutOfTimedOut : (timedOut base).status = .timedOut ∧
    ((after (exec .poll { timedOut base with sck := .high })).map (·.status) = some .poweredDown) ∧
    ((after (exec .poll (timedOut (ready 1 9)))).map (·.status) = some .initializing) ∧
    ((after (exec (.setGain 1) (timedOut base))).map (·.status) = some .initializing) ∧
    ((after (exec .pwrUp (timedOut base))).map (·.status) = some .initializing) := by decide
theorem witness_PoweredDownUntilPowerUp : ({ base with sck := .high } : State).sck = .high ∧
    Instr.pwrUp ∉ [Instr.setGain 1, .pwrDn, .poll, .getStatus] := by decide
theorem witness_WarmUpCountNeverOverflows : (after (exec .poll { ready 1 9 with pendingReadCount := 254, requiredReadCount := 255 })).map
    (·.pendingReadCount) = some 255 := by decide
theorem witness_PollPoweredDown : ({ base with sck := .high } : State).sck = .high := by decide

/-- For PollTransferCommitsSample, PollTransferTrace and the three warm-up statements, at the threshold's three sides. -/
theorem witness_PollTransfer : (ready 1 9).sck = .low ∧ doutAt (ready 1 9) 0 = .low ∧
    (ready 1 9).gainMode = GainName.gain128Rate10.code := by decide
theorem witness_WarmUpTransferIsOnlyCounted : pendingAfterRecovery { ready 1 9 with pendingReadCount := 1 } + 1 <
    ({ ready 1 9 with pendingReadCount := 1 } : State).requiredReadCount.toNat := by decide
theorem witness_LastWarmUpTransferSeeds : pendingAfterRecovery { ready 1 9 with pendingReadCount := 2 } + 1 =
    ({ ready 1 9 with pendingReadCount := 2 } : State).requiredReadCount.toNat := by decide
theorem witness_TransferAfterWarmUpBlends : ({ ready 1 9 with pendingReadCount := 3 } : State).requiredReadCount.toNat ≤
    pendingAfterRecovery { ready 1 9 with pendingReadCount := 3 } := by decide

theorem witness_FramedCountIsReadBack : (ready 0x800001 9).sck = .low ∧ doutAt (ready 0x800001 9) 0 = .low ∧
    EnvFrame (ready 0x800001 9) 0x800001 := by
  refine ⟨by decide, by decide, ?_⟩
  unfold EnvFrame
  decide
theorem witness_PollBusyCheck_ready : (ready 1 9).sck = .low ∧ doutAt (ready 1 9) 0 = .low := by decide
theorem witness_NoCommandDuringTransfer : base.phase = .idle ∧ base.sck = .low ∧ 0 ≤ 50 ∧ 50 = 2 * (24 + base.gainMode.toNat) := by decide
theorem witness_PowerUpRestartsTimeoutWindow :
    doutAt { base with doutScript := [.high], clockScript := [9000, 9500] } 0 = .high ∧
    ((clockAt { base with doutScript := [.high], clockScript := [9000, 9500] } 1).toNat + 2 ^ 32 -
      (clockAt { base with doutScript := [.high], clockScript := [9000, 9500] } 0).toNat) % 2 ^ 32 ≤ 500 := by decide
theorem witness_GettersAnswerTheirRegister : ((base.status, (0 : BitVec 32)) : Status × BitVec 32) ∈
    [(Status.initializing, 0#32), (.valid, 1#32), (.poweredDown, 2#32), (.timedOut, 3#32)] := by decide
theorem witness_SetGainStoresOrRefuses : GainName.gain256Rate40.operand = 5 ∧ (1 ≤ (5 : Word).toNat ∧ (5 : Word).toNat ≤ 5) ∧
    (1 ≤ (1 : Word).toNat ∧ (1 : Word).toNat ≤ 5) ∧ (0 : Word).toNat < 1 ∧ 5 < (6 : Word).toNat ∧
    5 < (0x80000001 : Word).toNat := by decide
theorem witness_SetScaleCoercesZero : (0 : Word) = 0 ∧ (1 : Word) ≠ 0 ∧ (-5 : Word) ≠ 0 := by decide
theorem witness_ReadingsAreCounts : ({ base with rawSample := 0xFFFC1800 } : State).rawSample.extractLsb' 0 8 = 0 := by decide
theorem witness_TareAdjustedReadings : -2 ^ 31 ≤ (0x80000000 : Word).toInt - base.tareOffset.toInt ∧
    (0x7FFFFFFF : Word).toInt - base.tareOffset.toInt ≤ 2 ^ 31 - 1 := by decide
theorem witness_ScaledReadings : base.scaleFactor ≠ 0 := by decide
theorem witness_SubtractionAndAdditionWrap : (0 : Word).toInt - (0x80000000 : Word).toInt > 2 ^ 31 - 1 ∧
    (0x80000000 : Word).toInt - (1 : Word).toInt < -2 ^ 31 ∧ (0x7FFFFFFF : Word).toInt + (1 : Word).toInt > 2 ^ 31 - 1 ∧
    (0x80000000 : Word).toInt + (-1 : Word).toInt < -2 ^ 31 ∧
    (-2 ^ 31 ≤ (0x80000000 : Word).toInt - (0 : Word).toInt ∧ (0x7FFFFFFF : Word).toInt + (0 : Word).toInt ≤ 2 ^ 31 - 1) := by
  decide
theorem witness_DivisionTruncatesTowardZero : (2 : Word) ≠ 0 ∧ ¬((0x80000000 : Word).toInt = -2 ^ 31 ∧ (2 : Word).toInt = -1) ∧
    (-1 : Word) ≠ 0 ∧ (0x80000000 : Word).toInt = -2 ^ 31 ∧ (-1 : Word).toInt = -1 := by decide
theorem witness_DivideBy256IsBiasedShift : (-257 : Word).msb = true ∧ (-257 : Word).extractLsb' 0 8 ≠ 0 := by decide
theorem witness_SmoothFrozenAndFullFactor : -2 ^ 31 ≤ (0x80000000 : Word).toInt - (0 : Word).toInt ∧
    (0x7FFFFF00 : Word).toInt - (0 : Word).toInt ≤ 2 ^ 31 - 1 := by decide
theorem witness_SmoothDeadBand : ((256000 : Word).toInt - (255745 : Word).toInt).natAbs < 256 := by decide
theorem witness_SmoothNeverOvershoots : ((-1 : Word).toInt ≤ (0x7FFFFF00 : Word).toInt ∧
    (0x7FFFFF00 : Word).toInt - (-1 : Word).toInt ≤ 2 ^ 31 - 1) ∧
    ((0x80000000 : Word).toInt ≤ (0 : Word).toInt ∧ -2 ^ 31 ≤ (0x80000000 : Word).toInt - (0 : Word).toInt) := by decide
theorem witness_SmoothWrapsAwayFromInput : 2 ^ 31 - 1 < (0x7FFFFF00 : Word).toInt - (-256 : Word).toInt ∧
    (0x80000000 : Word).toInt - (1 : Word).toInt < -2 ^ 31 := by decide

end Sys2Proof.Tests
end

/-! PROOFS. The scope family (00_scope.md): the step of a ready block, what stands on the command port, the one response
of every command, and the conversion result read back. -/

namespace Sys2Proof.Machine

/-! ### The step of a ready block -/

/-- Settles O5: `step` hands a decoded word of a ready block to `exec`. -/
theorem stepRunsDecodedCommand : Obligations.StepRunsDecodedCommand := by
  intro s w rest i hready hin hdec
  have hissue : step s = issue w (accept rest s) := by simp [step, hin, hready]
  rw [hissue, issue, hdec]
  rfl

/-- A ready block waits when the host presents nothing (R10; log 2). -/
theorem step_of_no_input {s : State} (hready : cmdReadyO s = true) (hin : s.inputs = []) : step s = .next s := by
  simp [step, hin, hready]

/-- Settles O7: with no input, `step` asks only whether the block is ready. -/
theorem idleBlockWaits : Obligations.IdleBlockWaits := fun _ => step_of_no_input

/-! ### The command port -/

theorem cmdI_of_command {s : State} {w : CommandWord} {rest : List Input} (hin : s.inputs = .command w :: rest) :
    cmdI s = some w := by
  simp [cmdI, hin]

theorem cmdI_of_pollCutByReset {s : State} {edges : Nat} {rest : List Input}
    (hin : s.inputs = .pollCutByReset edges :: rest) : cmdI s = some (encode .poll) := by
  simp [cmdI, hin]

theorem cmdValidI_of_cmdI {s : State} {w : CommandWord} (h : cmdI s = some w) : cmdValidI s = true := by
  simp [cmdValidI, h]

/-- `cmd_valid_i` is 0 only with no input or a reset at hand (R9, R10). -/
theorem inputs_of_not_cmdValidI {s : State} (h : cmdValidI s = false) :
    s.inputs = [] ∨ ∃ rest, s.inputs = .reset :: rest := by
  rcases cmdI_cases s with ⟨w, rest, _, hw⟩ | ⟨edges, rest, _, hw⟩ | ⟨rest, hin, _⟩ | ⟨hin, _⟩
  · simp [cmdValidI_of_cmdI hw] at h
  · simp [cmdValidI_of_cmdI hw] at h
  · exact .inr ⟨rest, hin⟩
  · exact .inl hin

/-- Settles O54: `cmd_valid_i` at 0 leaves only the empty list of inputs, and the words on `cmd_i` are read off the head of
the inputs. -/
theorem nothingRunsUnlessPresented : Obligations.NothingRunsUnlessPresented := by
  refine ⟨?_, ?_, ?_⟩
  · intro s hready hvalid hreset
    rcases inputs_of_not_cmdValidI hvalid with hin | ⟨rest, hin⟩
    · exact step_of_no_input hready hin
    · exact absurd hin (hreset rest)
  · intro s edges rest hin
    have hword := cmdI_of_pollCutByReset hin
    exact ⟨cmdValidI_of_cmdI hword, encode .poll, hword, by decide⟩
  · intro s w rest hin
    have hword := cmdI_of_command hin
    exact ⟨cmdValidI_of_cmdI hword, hword⟩

/-! ### One response for each command -/

/-- The commands that return a value (R49, R56). -/
def getCommands : List Instr :=
  [.getStatus, .getGain, .getReq, .getSmf, .getRaw, .getSmoothed, .getTare, .getMtR, .getMtS, .getScale,
    .getAdjR, .getAdjS]

/-- A GET command is a response and nothing else (R49). -/
theorem exec_getCommand {i : Instr} (hget : i ∈ getCommands) (s : State) :
    ∃ data, exec i s = .next (respond true true data s) := by
  simp only [getCommands, List.mem_cons, List.not_mem_nil, or_false] at hget
  rcases hget with rfl | rfl | rfl | rfl | rfl | rfl | rfl | rfl | rfl | rfl | rfl | rfl <;> exact ⟨_, rfl⟩

theorem getCommand_wellFormed : ∀ i ∈ getCommands, i.wellFormed = true := by decide

/-- SETGAIN answers `ok` by its legality test, in either case without data (R91). -/
theorem exec_setGain_responds (arg : Word) (s : State) :
    ∃ u : State, exec (.setGain arg) s = .next (respond (Instr.setGain arg).wellFormed true 0 u) ∧
      u.responses = s.responses ∧ u.phase = s.phase := by
  have hexec : exec (.setGain arg) s = execSetGain arg s := rfl
  rw [hexec, execSetGain, gainLegal_eq_wellFormed]
  cases (Instr.setGain arg).wellFormed with
  | true => exact ⟨restartWarmUp { s with gainMode := gainCode arg }, rfl, rfl, rfl⟩
  | false => exact ⟨s, rfl, rfl, rfl⟩

/-- Every command but POLL and the GET commands ends in a response without data, given in a state that has the responses
and the `PHASE` it started from; `ok` is its legality (R56, R121). -/
theorem exec_setCommand {i : Instr} (hget : i ∉ getCommands) (hpoll : i ≠ .poll) (s : State) :
    ∃ u : State, exec i s = .next (respond i.wellFormed true 0 u) ∧ u.responses = s.responses ∧ u.phase = s.phase := by
  cases i with
  | poll => exact absurd rfl hpoll
  | setGain arg => exact exec_setGain_responds arg s
  | pwrDn | pwrUp | setReq | setSmf | tareR | tareS | setTare | adjR | adjS | setScale => exact ⟨_, rfl, rfl, rfl⟩
  | getStatus | getGain | getReq | getSmf | getRaw | getSmoothed | getTare | getMtR | getMtS | getScale | getAdjR
  | getAdjS => exact absurd (by decide) hget

/-- `t` is `s` after a command that was answered with `r`: the response has joined the record and is present, and a
sequencer that was at IDLE is there again (R10, R37, R56). -/
structure AnsweredWith (r : Response) (s t : State) : Prop where
  responses : t.responses = s.responses ++ [r]
  handshake : t.handshake = .answered
  phase : s.phase = .idle → t.phase = .idle

theorem respond_answeredWith (ok done : Bool) (data : Word) {s u : State} (hresp : u.responses = s.responses)
    (hphase : u.phase = s.phase) : AnsweredWith ⟨ok, done, data⟩ s (respond ok done data u) where
  responses := by simp [hresp]
  handshake := rfl
  phase := fun hidle => by simpa [hphase] using hidle

theorem poll_answeredWith (s : State) : ∃ done, AnsweredWith ⟨true, done, 0⟩ s (pollWith transfer s) := by
  obtain ⟨done, hresp⟩ := poll_responses s
  exact ⟨done, hresp, poll_handshake s, poll_phase⟩

/-- What an answered command leaves at the ports (R9, R10). -/
theorem AnsweredWith.ports {r : Response} {s t : State} (h : AnsweredWith r s t) :
    rspValidO t = true ∧ rspO t = some (packResponse r) ∧ (s.phase = .idle → cmdReadyO t = true) := by
  refine ⟨rspValidO_of_answered h.handshake, rspO_of_answered h.handshake h.responses, fun hidle => ?_⟩
  rw [cmdReadyO_iff, h.handshake]
  exact ⟨by decide, h.phase hidle⟩

/-- Every command completes and is answered once (R10, R56, R119). -/
theorem exec_answeredWith (i : Instr) (s : State) :
    ∃ t r, exec i s = .next t ∧ AnsweredWith r s t ∧ r.ok = i.wellFormed ∧ (i ≠ .poll → r.done = true) ∧
      (i ∉ getCommands → r.data = 0) := by
  by_cases hget : i ∈ getCommands
  · obtain ⟨data, hexec⟩ := exec_getCommand hget s
    exact ⟨_, _, hexec, respond_answeredWith _ _ _ rfl rfl, (getCommand_wellFormed i hget).symm, fun _ => rfl,
      fun hno => absurd hget hno⟩
  · by_cases hpoll : i = .poll
    · subst hpoll
      obtain ⟨done, hans⟩ := poll_answeredWith s
      exact ⟨_, _, rfl, hans, rfl, fun hno => absurd rfl hno, fun _ => rfl⟩
    · obtain ⟨u, hexec, hresp, hphase⟩ := exec_setCommand hget hpoll s
      exact ⟨_, _, hexec, respond_answeredWith _ _ _ hresp hphase, rfl, fun _ => rfl, fun _ => rfl⟩

/-- Settles O15: each command is a GET command, POLL, or one that answers without data. -/
theorem everyCommandAnswersOnce : Obligations.EveryCommandAnswersOnce := by
  intro i s
  obtain ⟨t, r, hexec, hans, hok, hdone, hdata⟩ := exec_answeredWith i s
  exact ⟨t, r, hexec, hans.responses, hok, hdone, hdata, hans.ports⟩

/-! ### The conversion result, committed and read back -/

/-- Under `ENV-FRAME` a POLL that finds the chip ready commits the framed result (R77). -/
theorem poll_rawSample_of_frame {s : State} {count : BitVec 24} (hsck : s.sck = .low) (hdout : doutAt s 0 = .low)
    (hframe : EnvFrame s count) : (pollWith transfer s).rawSample = widenCount count := by
  rw [poll_ready hsck hdout, settle_eq, pollTransferred_eq, received_of_frame hframe]

/-- Dividing a committed count by 256 gives the count back, sign-extended (R44, R67, R105). -/
theorem toCount_widenCount (count : BitVec 24) : toCount (widenCount count) = count.signExtend 32 := by
  apply BitVec.eq_of_toInt_eq
  calc (toCount (widenCount count)).toInt
      _ = (256 * count.toInt).tdiv 256 := by rw [toCount, fracUnit, sdiv32_256_toInt, widenCount_toInt]
      _ = count.toInt := Int.mul_tdiv_cancel_left _ (by decide)
      _ = (count.signExtend 32).toInt := (BitVec.toInt_signExtend_of_le (by decide)).symm

/-- Settles O30: POLL commits the framed result times 256, and GETRAW's division undoes the scaling. -/
theorem framedCountIsReadBack : Obligations.FramedCountIsReadBack := by
  intro s count hsck hdout hframe
  have hraw := poll_rawSample_of_frame hsck hdout hframe
  refine ⟨pollWith transfer s, rfl, hraw, by rw [hraw, widenCount_toInt], ?_⟩
  rw [← toCount_widenCount, ← hraw]
  rfl

end Sys2Proof.Machine

/-! PROOFS. The state family (10_state.md): what each command does to the state, the invariants of R41, the writers of each
register, the transition relation of `status`, the bound on the warm-up count, and the pin events of a transfer. -/

namespace Sys2Proof.Machine

/-! ### What a command does -/

/-- The ways a command `i` takes `s` to another state: POLL, one way for each other command that writes `status`, the clock
line or a pin event, one for each kind of setting, and the GET commands together (R6, R49). -/
inductive ExecEffect (s : State) : Instr → State → Prop
  | poll : ExecEffect s .poll (pollWith transfer s)
  | pwrUp : ExecEffect s .pwrUp
      (respond true true 0 (stampTime (clearPending (setStatus .initializing (sckWrite .low s)))))
  | pwrDn : ExecEffect s .pwrDn (respond true true 0 (sckWrite .high s))
  | gainStored (arg : Word) (lo : 1 ≤ arg.toNat) (hi : arg.toNat ≤ 5) : ExecEffect s (.setGain arg)
      (respond true true 0 (clearPending (setStatus .initializing { s with gainMode := gainCode arg })))
  | gainRefused (arg : Word) (illegal : arg.toNat < 1 ∨ 5 < arg.toNat) : ExecEffect s (.setGain arg)
      (respond false true 0 s)
  | requiredSet (arg : Word) : ExecEffect s (.setReq arg)
      (respond true true 0 { s with requiredReadCount := lowByte arg })
  | factorSet (arg : Word) : ExecEffect s (.setSmf arg)
      (respond true true 0 { s with smoothingFactor := lowByte arg })
  | tareStored {i : Instr} (v : Word) (writer : i = .tareR ∨ i = .tareS ∨ ∃ a, i = .setTare a) : ExecEffect s i
      (respond true true 0 { s with tareOffset := v })
  | scaleStored {i : Instr} (v : Word) (writer : (∃ a, i = .adjR a) ∨ (∃ a, i = .adjS a) ∨ ∃ a, i = .setScale a) :
      ExecEffect s i (respond true true 0 { s with scaleFactor := zeroToOne v })
  | answered {i : Instr} (data : Word) (get : i ∈ getCommands) : ExecEffect s i (respond true true data s)

/-- A command does nothing but its effect. -/
theorem exec_effect {i : Instr} {s t : State} (h : exec i s = .next t) : ExecEffect s i t := by
  by_cases hget : i ∈ getCommands
  · obtain ⟨data, hexec⟩ := exec_getCommand hget s
    cases hexec.symm.trans h
    exact .answered data hget
  · cases i with
    | poll => cases h; exact .poll
    | pwrUp => cases h; exact .pwrUp
    | pwrDn => cases h; exact .pwrDn
    | setGain arg =>
      rcases execSetGain_cases arg s with ⟨lo, hi, e⟩ | ⟨illegal, e⟩
      · cases e.symm.trans h
        exact .gainStored arg lo hi
      · cases e.symm.trans h
        exact .gainRefused arg illegal
    | setReq arg => cases h; exact .requiredSet arg
    | setSmf arg => cases h; exact .factorSet arg
    | tareR => cases h; exact .tareStored _ (.inl rfl)
    | tareS => cases h; exact .tareStored _ (.inr (.inl rfl))
    | setTare arg => cases h; exact .tareStored _ (.inr (.inr ⟨arg, rfl⟩))
    | adjR arg => cases h; exact .scaleStored _ (.inl ⟨arg, rfl⟩)
    | adjS arg => cases h; exact .scaleStored _ (.inr (.inl ⟨arg, rfl⟩))
    | setScale arg => cases h; exact .scaleStored _ (.inr (.inr ⟨arg, rfl⟩))
    | getStatus | getGain | getReq | getSmf | getRaw | getSmoothed | getTare | getMtR | getMtS | getScale | getAdjR
    | getAdjS => exact absurd (by decide) hget

/-! ### The invariants of the registers -/

/-- The part of `BlockInv` that speaks of registers: it also holds while a command is in execution. -/
structure RegistersInv (s : State) : Prop where
  scale_ne_zero : s.scaleFactor ≠ 0
  raw_low_byte : s.rawSample.extractLsb' 0 8 = 0
  gain_legal : 1 ≤ s.gainMode.toNat ∧ s.gainMode.toNat ≤ 5
  powered_down_high : s.status = .poweredDown → s.sck = .high
  phase_idle : s.phase = .idle

theorem BlockInv.registersInv {s : State} (h : BlockInv s) : RegistersInv s := { h with }

/-- Acceptance does not write a register. -/
theorem RegistersInv.accept {s : State} (h : RegistersInv s) (rest : List Input) : RegistersInv (accept rest s) := { h with }

/-- A response does not write a register. -/
theorem RegistersInv.respond {s : State} (h : RegistersInv s) (ok done : Bool) (data : Word) :
    RegistersInv (respond ok done data s) := { h with }

/-- Only PoweredDown asks something of the clock line. -/
theorem RegistersInv.setStatus {s : State} (h : RegistersInv s) {st : Status} (hst : st ≠ .poweredDown) :
    RegistersInv (setStatus st s) := { h with powered_down_high := fun hpd => absurd hpd hst }

/-- A block that meets the invariants is ready (R10, R37). -/
theorem BlockInv.ready {s : State} (h : BlockInv s) : cmdReadyO s = true :=
  (cmdReadyO_iff s).2 ⟨h.not_executing, h.phase_idle⟩

/-- Once a command is answered, the invariants of the registers are all there is to ask. -/
theorem RegistersInv.blockInv_of_answered {r : Response} {s t : State} (h : RegistersInv t) (hans : AnsweredWith r s t) :
    BlockInv t :=
  { h with
    not_executing := by rw [hans.handshake]; decide
    response_present := fun _ => by rw [hans.responses]; simp }

/-- Reset meets the invariants, whatever stands at the ports (R135, R136). -/
theorem blockReset_blockInv (s : State) : BlockInv (blockReset s) where
  scale_ne_zero := (by decide : State.reset.scaleFactor ≠ 0)
  raw_low_byte := rfl
  gain_legal := (by decide : 1 ≤ State.reset.gainMode.toNat ∧ State.reset.gainMode.toNat ≤ 5)
  powered_down_high := fun h => nomatch h
  phase_idle := rfl
  not_executing := fun h => nomatch h
  response_present := fun h => nomatch h

/-- Settles O13: the reset state is the reset of any state with nothing at its ports. -/
theorem resetMeetsInvariants : Obligations.ResetMeetsInvariants := blockReset_blockInv State.reset

/-! ### Every command keeps the invariants of the registers -/

/-- The end of a transfer either leaves `status` or sets Valid. -/
theorem RegistersInv.settle {s : State} (h : RegistersInv s) : RegistersInv (settle s) := by
  rcases settle_cases s with ⟨_, e⟩ | ⟨_, e⟩ | ⟨_, e⟩
  · have hcount : RegistersInv (countTransfer s) := { h with }
    rw [e]
    exact hcount.respond _ _ _
  · have hseed : RegistersInv (seed (countTransfer s)) := { h with }
    rw [e]
    exact (hseed.setStatus (by decide)).respond _ _ _
  · have hblend : RegistersInv (blend s) := { h with }
    rw [e]
    exact (hblend.setStatus (by decide)).respond _ _ _

/-- A transfer commits a sample whose low byte is 0; its clock line was low, so the block was not PoweredDown. -/
theorem RegistersInv.pollTransferred {s : State} (h : RegistersInv s) (hsck : s.sck = .low) :
    RegistersInv (pollTransferred s) := by
  have hnot : s.status ≠ .poweredDown := fun hpd => by simp [h.powered_down_high hpd] at hsck
  rw [pollTransferred_eq]
  exact
    { h with
      raw_low_byte := widenCount_low _
      powered_down_high := fun hpd => by
        dsimp only at hpd
        split at hpd
        · cases hpd
        · exact absurd hpd hnot
      phase_idle := rfl }

theorem RegistersInv.poll {s : State} (h : RegistersInv s) : RegistersInv (pollWith transfer s) := by
  have htake : RegistersInv (nowTake (doutTake s)) := { h with }
  rcases pollWith_cases transfer s with ⟨hsck, e⟩ | ⟨_, _, _, e⟩ | ⟨_, _, _, e⟩ | ⟨hsck, hdout, _⟩
  · have hpd : RegistersInv (Machine.setStatus .poweredDown s) := { h with powered_down_high := fun _ => hsck }
    rw [e]
    exact hpd.respond _ _ _
  · rw [e]
    exact (htake.setStatus (by decide)).respond _ _ _
  · rw [e]
    exact htake.respond _ _ _
  · rw [poll_ready hsck hdout]
    exact (h.pollTransferred hsck).settle

/-- A legal operand is its own gain code (R57, R91). -/
theorem gainCode_toNat {arg : Word} (hi : arg.toNat ≤ 5) : (gainCode arg).toNat = arg.toNat := by
  rw [gainCode, BitVec.extractLsb'_toNat]
  simp
  omega

theorem ExecEffect.registersInv {i : Instr} {s t : State} (he : ExecEffect s i t) (h : RegistersInv s) :
    RegistersInv t := by
  cases he with
  | poll => exact h.poll
  | pwrUp => exact { h with powered_down_high := fun hpd => nomatch hpd }
  | pwrDn => exact { h with powered_down_high := fun _ => rfl }
  | gainStored arg lo hi =>
    have hcode : 1 ≤ (gainCode arg).toNat ∧ (gainCode arg).toNat ≤ 5 := by rw [gainCode_toNat hi]; exact ⟨lo, hi⟩
    exact { h with gain_legal := hcode, powered_down_high := fun hpd => nomatch hpd }
  | scaleStored v _ => exact { h with scale_ne_zero := zeroToOne_ne_zero v }
  | gainRefused | requiredSet | factorSet | tareStored | answered => exact { h with }

/-- A command keeps the registers' invariants and ends answered, so it restores those of the ports too. -/
theorem exec_blockInv {i : Instr} {s t : State} (h : RegistersInv s) (hexec : exec i s = .next t) : BlockInv t := by
  obtain ⟨u, r, hu, hans, _⟩ := exec_answeredWith i s
  cases hu.symm.trans hexec
  exact ((exec_effect hexec).registersInv h).blockInv_of_answered hans

/-- Settles O12: a block that meets the invariants is ready, so its step waits, runs a command, refuses a reserved opcode
or resets. -/
theorem everyStepKeepsInvariants : Obligations.EveryStepKeepsInvariants := by
  intro s t h hstep
  rcases step_ready_cases h.ready with
    ⟨_, e⟩ | ⟨_, rest, _, _, _, e⟩ | ⟨_, rest, _, _, e⟩ | ⟨_, _, e⟩ | ⟨_, _, _, e⟩
  · cases e.symm.trans hstep
    exact h
  · exact exec_blockInv (h.registersInv.accept rest) (e.symm.trans hstep)
  · cases e.symm.trans hstep
    exact ((h.registersInv.accept rest).respond false true 0).blockInv_of_answered
      (respond_answeredWith false true 0 rfl rfl)
  · cases e.symm.trans hstep
    exact blockReset_blockInv _
  · cases e.symm.trans hstep
    exact blockReset_blockInv _

/-! ### The writers of each register -/

/-- Settles O17: POLL by what no POLL writes, every other command by its effect. -/
theorem registersHaveOnlyTheirWriters : Obligations.RegistersHaveOnlyTheirWriters := by
  intro i s t hexec
  cases exec_effect hexec with
  | poll =>
    obtain ⟨htare, hscale, hgain, hreq, hsmf, hsck, hin⟩ := poll_keeps s
    simp [htare, hscale, hgain, hreq, hsmf, hsck, hin]
  | tareStored v writer => simp [writer]
  | scaleStored v writer => simp [writer]
  | pwrUp | pwrDn | gainStored | gainRefused | requiredSet | factorSet | answered => simp

/-! ### The transitions of `status` -/

/-- The commands that write `status` (R28). -/
theorem status_writers {i : Instr} {s t : State} (hexec : exec i s = .next t) (hne : t.status ≠ s.status) :
    i = .poll ∨ i = .pwrUp ∨ ∃ a, i = .setGain a := by
  obtain ⟨_, _, _, _, _, hstatus, _⟩ := registersHaveOnlyTheirWriters i s t hexec
  exact hstatus hne

theorem step_of_reset {s : State} {rest : List Input} (hin : s.inputs = .reset :: rest) :
    step s = .next (blockReset (setInputs rest s)) := by
  simp [step, hin]

/-- Before the warm-up threshold a transfer leaves `status` (R80). -/
theorem settle_status_of_warming {s : State} (h : s.pendingReadCount.toNat + 1 < s.requiredReadCount.toNat) :
    (settle s).status = s.status := by
  simp [settle_counts h]

/-- From the warm-up threshold on a transfer sets Valid (R80, R82). -/
theorem settle_status_of_warm {s : State} (h : s.requiredReadCount.toNat ≤ s.pendingReadCount.toNat + 1) :
    (settle s).status = .valid := by
  rcases settle_cases s with ⟨hlt, _⟩ | ⟨_, e⟩ | ⟨_, e⟩
  · omega
  · simp [e]
  · simp [e]

theorem pollTransferred_required (s : State) : (pollTransferred s).requiredReadCount = s.requiredReadCount := by
  rw [pollTransferred_eq]

theorem pollTransferred_status (s : State) :
    (pollTransferred s).status = if s.status = .timedOut then .initializing else s.status := by
  rw [pollTransferred_eq]

/-- `status` after a transfer that does not finish warm-up: recovery alone writes it (R75, R80). -/
theorem poll_status_of_warming {s : State} (hsck : s.sck = .low) (hdout : doutAt s 0 = .low)
    (hwarm : pendingAfterRecovery s + 1 < s.requiredReadCount.toNat) :
    (pollWith transfer s).status = if s.status = .timedOut then .initializing else s.status := by
  rw [poll_ready hsck hdout, settle_status_of_warming, pollTransferred_status]
  rwa [pollTransferred_pending, pollTransferred_required]

theorem poll_status_of_warm {s : State} (hsck : s.sck = .low) (hdout : doutAt s 0 = .low)
    (hwarm : s.requiredReadCount.toNat ≤ pendingAfterRecovery s + 1) :
    (pollWith transfer s).status = .valid := by
  rw [poll_ready hsck hdout, settle_status_of_warm]
  rwa [pollTransferred_pending, pollTransferred_required]

/-- Settles O19: the reset row by the step, the POLL rows by POLL's outcomes, SETGAIN's by its two ways; and no other
command writes `status`. -/
theorem statusTransitionRelation : Obligations.StatusTransitionRelation := by
  refine ⟨fun s rest hin => ⟨_, step_of_reset hin, rfl⟩, fun i s t hexec => ⟨?_, ?_, ?_, ?_, ?_, ?_, ?_, ?_, ?_⟩⟩
  · rintro rfl hsck
    cases hexec
    rw [pollWith_poweredDown _ hsck]
    rfl
  · rintro rfl hsck hdout helapsed
    cases hexec
    rw [pollWith_timedOut _ hsck hdout helapsed]
    rfl
  · rintro rfl hsck hdout helapsed
    cases hexec
    rw [pollWith_busy _ hsck hdout helapsed]
    rfl
  · rintro rfl hsck hdout hwarm
    cases hexec
    exact poll_status_of_warming hsck hdout hwarm
  · rintro rfl hsck hdout hwarm
    cases hexec
    exact poll_status_of_warm hsck hdout hwarm
  · rintro arg rfl lo hi
    rcases execSetGain_cases arg s with ⟨_, _, e⟩ | ⟨illegal, _⟩
    · cases e.symm.trans hexec
      rfl
    · omega
  · rintro arg rfl illegal
    rcases execSetGain_cases arg s with ⟨lo, hi, _⟩ | ⟨_, e⟩
    · omega
    · cases e.symm.trans hexec
      rfl
  · rintro rfl
    cases hexec
    rfl
  · intro hpoll hgain hup
    by_contra hne
    rcases status_writers hexec hne with rfl | rfl | ⟨arg, rfl⟩
    · exact hpoll rfl
    · exact hup rfl
    · exact hgain arg rfl

/-! ### The warm-up count -/

theorem pendingAfterRecovery_cases (s : State) :
    pendingAfterRecovery s = 0 ∨ pendingAfterRecovery s = s.pendingReadCount.toNat := by
  unfold pendingAfterRecovery
  split
  · exact .inl rfl
  · exact .inr rfl

/-- The end of a transfer counts it while the required count is not reached, and leaves the warm-up count from then on
(R80). -/
theorem settle_pending (s : State) :
    (s.pendingReadCount.toNat < s.requiredReadCount.toNat ∧
      (settle s).pendingReadCount.toNat = s.pendingReadCount.toNat + 1) ∨
    (settle s).pendingReadCount = s.pendingReadCount := by
  rcases settle_cases s with ⟨hlt, e⟩ | ⟨heq, e⟩ | ⟨_, e⟩
  · have hcount : s.pendingReadCount.toNat < s.requiredReadCount.toNat := by omega
    exact .inl ⟨hcount, by rw [e]; exact countTransfer_toNat hcount⟩
  · have hcount : s.pendingReadCount.toNat < s.requiredReadCount.toNat := by omega
    exact .inl ⟨hcount, by rw [e]; exact countTransfer_toNat hcount⟩
  · exact .inr (by rw [e]; rfl)

/-- A POLL leaves the warm-up count; or it ends a transfer, which goes on from the count after recovery (R75, R80). -/
theorem poll_pending_cases (s : State) :
    let t := pollWith transfer s
    t.pendingReadCount = s.pendingReadCount ∨ t.pendingReadCount.toNat = pendingAfterRecovery s ∨
    (pendingAfterRecovery s < s.requiredReadCount.toNat ∧ t.pendingReadCount.toNat = pendingAfterRecovery s + 1) := by
  intro t
  rcases pollWith_cases transfer s with ⟨_, e⟩ | ⟨_, _, _, e⟩ | ⟨_, _, _, e⟩ | ⟨hsck, hdout, _⟩
  · exact .inl (by simp [t, e])
  · exact .inl (by simp [t, e])
  · exact .inl (by simp [t, e])
  · have hsettle := settle_pending (pollTransferred s)
    rw [← poll_ready hsck hdout, pollTransferred_pending, pollTransferred_required] at hsettle
    rcases hsettle with hcount | hkeep
    · exact .inr (.inr hcount)
    · exact .inr (.inl (by rw [← pollTransferred_pending, ← hkeep]))

/-- Settles O22: POLL alone counts, from the count after recovery, which is 0 or the count before. -/
theorem warmUpCountNeverOverflows : Obligations.WarmUpCountNeverOverflows := by
  intro i s t hexec
  cases exec_effect hexec with
  | poll =>
    have hrec := pendingAfterRecovery_cases s
    rcases poll_pending_cases s with hkeep | hpoll
    · simp [hkeep]
    · simp only [true_and]
      omega
  | pwrUp | pwrDn | gainStored | gainRefused | requiredSet | factorSet | tareStored | scaleStored | answered =>
    simp

/-! ### The pin events of a transfer -/

/-- The code of a gain mode equals the number of its extra pulses (R27). -/
theorem code_toNat (g : GainName) : g.code.toNat = g.extraPulses := by
  cases g <;> rfl

/-- Settles O26: the end of a transfer adds no event to those of its pulses. -/
theorem pollTransferTrace : Obligations.PollTransferTrace := by
  intro s g hsck hdout hgain
  refine ⟨pollWith transfer s, rfl, ?_⟩
  rw [poll_ready hsck hdout, settle_eq, pollTransferred_eq, hdout, hgain, code_toNat]

end Sys2Proof.Machine

/-! PROOFS. The memory family (20_memory.md): what a GET command's answer depends on, and the sample a transfer commits. -/

namespace Sys2Proof.Machine

/-! ### The GET commands -/

/-- What a GET command answers is read from the registers: a response given before it makes no difference (R49). -/
theorem exec_getCommand_after_respond {i : Instr} (hget : i ∈ getCommands) (s : State) :
    ∃ data, exec i s = .next (respond true true data s) ∧
      ∀ (ok done : Bool) (before : Word),
        exec i (respond ok done before s) = .next (respond true true data (respond ok done before s)) := by
  simp only [getCommands, List.mem_cons, List.not_mem_nil, or_false] at hget
  rcases hget with rfl | rfl | rfl | rfl | rfl | rfl | rfl | rfl | rfl | rfl | rfl | rfl <;>
    exact ⟨_, rfl, fun _ _ _ => rfl⟩

/-- Settles O18: the command's own response is one that makes no difference to its answer. -/
theorem getCommandsArePure : Obligations.GetCommandsArePure := by
  intro i s t hget hexec
  obtain ⟨data, hfirst, hagain⟩ := exec_getCommand_after_respond hget s
  cases hfirst.symm.trans hexec
  exact ⟨⟨true, true, data⟩, rfl, hagain true true data⟩

/-! ### The sample a transfer commits -/

/-- The sample committed by a POLL holds the levels after the busy check's, the first in the most significant bit (R43,
R44, R76). -/
theorem widenCount_received_getMsbD (s : State) {k : Nat} (hk : k < 24) :
    (widenCount (received (doutTake s))).getMsbD k = decide (doutAt s (k + 1) = .high) := by
  rw [widenCount_getMsbD _ hk, received_getMsbD _ hk, doutAt_doutTake]

/-- `PCNT` is wide enough for the pulses of a transfer, whatever the gain code (R36, R78). -/
theorem pulseCount_toNat (gain : BitVec 3) : (BitVec.ofNat 5 (24 + gain.toNat)).toNat = 24 + gain.toNat := by
  have hgain : gain.toNat < 8 := gain.isLt
  exact Nat.mod_eq_of_lt (by omega)

/-- Settles O25: no POLL writes the configuration, and the closed form of the transfer gives the rest; by it alone where
no case is named below. -/
theorem pollTransferCommitsSample : Obligations.PollTransferCommitsSample := by
  intro s hsck hdout
  obtain ⟨htare, hscale, hgain, hreq, hsmf, _, hin⟩ := poll_keeps s
  refine ⟨pollWith transfer s, rfl, fun k hk => ?bits, ?lowByte, ?stamp, ?clockLine, ?sequencer, ?shreg, ?gainPulses,
    ?pulseCount, htare, hscale, hgain, hreq, hsmf, hin, ?doutScript, ?doutCount, ?clockScript, ?clockCount⟩
  all_goals rw [poll_ready hsck hdout, settle_eq, pollTransferred_eq]
  case bits => exact widenCount_received_getMsbD s hk
  case lowByte => exact widenCount_low _
  case shreg => exact (widenCount_high _).symm
  case pulseCount => exact pulseCount_toNat s.gainMode
  case clockScript => exact List.drop_one.symm

end Sys2Proof.Machine

/-! PROOFS. The encoding family (30_encoding.md): what a command word decodes to, which opcodes are reserved and how a
reserved one is answered, and the layout of the response word. -/

namespace Sys2Proof

/-! ### The meaning of a command word -/

/-- An opcode decodes to its command whatever the operand field holds, except that a command that uses its operand takes
it from there (R57, R58). -/
theorem decodeFields_opcode {i : Instr} {arg : Word} (harg : usesOperand i = true → arg = operandOf i) :
    decodeFields (opcode i) arg = some i := by
  cases i with
  | setGain | setReq | setSmf | setTare | adjR | adjS | setScale =>
    rw [harg rfl]
    rfl
  | poll | getStatus | getGain | pwrDn | pwrUp | getReq | getSmf | getRaw | getSmoothed | tareR | tareS | getTare
  | getMtR | getMtS | getScale | getAdjR | getAdjS => rfl

/-- The words of a command are those with its opcode, and with its operand where it uses it (R54, R57, R58). -/
theorem decode_eq_some_iff {w : CommandWord} {i : Instr} :
    decode w = some i ↔ opField w = opcode i ∧ (usesOperand i = true → argField w = operandOf i) := by
  constructor
  · exact decodeFields_some
  · rintro ⟨hop, harg⟩
    rw [decode, hop]
    exact decodeFields_opcode harg

theorem decode_encode (i : Instr) : decode (encode i) = some i :=
  decode_eq_some_iff.mpr ⟨opField_encode i, fun _ => argField_encode i⟩

/-- A command word numbered as the opcode table numbers it decodes as the word itself (R45, R54). -/
theorem decodeTableWord_toNat (w : CommandWord) : decodeTableWord 40 w.toNat = decode w := by
  rw [decodeTableWord, if_pos le_rfl, commandOfNat_toNat]

/-- Settles O1: the fields of an encoding are the command's opcode and operand, and a word's number gives the word back. -/
theorem decodeOfEncodeIsIdentity : Obligations.DecodeOfEncodeIsIdentity := fun i =>
  ⟨decode_encode i, (decodeTableWord_toNat (encode i)).trans (decode_encode i)⟩

/-- Settles O2: the two fields of a word determine it, and an operand that is not used does not enter the decoding. -/
theorem wordIsOpcodeAndOperand : Obligations.WordIsOpcodeAndOperand := by
  intro w i hdec
  obtain ⟨hop, harg⟩ := decode_eq_some_iff.mp hdec
  refine ⟨hop, fun huses => ?_, fun hunused arg => ?_⟩
  · calc w
        _ = opField w ++ argField w := (opField_append_argField w).symm
        _ = encode i := by rw [hop, harg huses, encode]
  · rw [decode_append]
    exact decodeFields_opcode fun huses => absurd (hunused.symm.trans huses) (by decide)

/-! ### The reserved opcodes -/

/-- The reserved values of `op` (R59). -/
def ReservedOpcode (op : BitVec 8) : Prop :=
  op.toNat = 0x00 ∨ op.toNat = 0x03 ∨ (0x0C ≤ op.toNat ∧ op.toNat ≤ 0x0F) ∨ 0x1E ≤ op.toNat

/-- No opcode of the map is reserved (R58, R59). -/
theorem opcode_not_reserved (i : Instr) : ¬ ReservedOpcode (opcode i) := by
  unfold ReservedOpcode
  cases i <;> simp only [opcode] <;> decide

/-- The opcode map leaves out the reserved values and no others (R58, R59). -/
theorem decodeFields_eq_none_iff {op : BitVec 8} {arg : Word} :
    decodeFields op arg = none ↔ ReservedOpcode op := by
  constructor
  · intro hnone
    unfold decodeFields at hnone
    split at hnone
    case h_25 => -- `op` is none of the 24 opcodes
      simp only [imp_false] at *
      unfold ReservedOpcode
      bv_omega
    all_goals cases hnone
  · intro hres
    cases hdec : decodeFields op arg with
    | none => rfl
    | some i =>
      obtain ⟨rfl, _⟩ := decodeFields_some hdec
      exact absurd hres (opcode_not_reserved i)

/-- Settles O3: the decoder sees the word through its two fields, and the opcode field alone decides. -/
theorem reservedOpcodesAreExactlyRefused : Obligations.ReservedOpcodesAreExactlyRefused := by
  intro op arg
  rw [decode_append]
  exact decodeFields_eq_none_iff

/-- Settles O4: each word is a literal, which the decoder evaluates. -/
theorem sampleCommandWordsDecode : Obligations.SampleCommandWordsDecode := by
  unfold Obligations.SampleCommandWordsDecode
  decide

end Sys2Proof

namespace Sys2Proof.Machine

/-- A ready block issues the command word the host presents (R10). -/
theorem step_of_command {s : State} {w : CommandWord} {rest : List Input} (hready : cmdReadyO s = true)
    (hin : s.inputs = .command w :: rest) : step s = issue w (accept rest s) := by
  simp [step, hin, hready]

/-- A word that does not decode is answered (0, 1, 0) and nothing else (R59; log 3). -/
theorem issue_of_reserved {w : CommandWord} (hdec : decode w = none) (s : State) :
    issue w s = .next (respond false true 0 s) := by
  rw [issue, hdec, answerRefused_eq]

/-- Settles O6: acceptance and the refusal write the inputs, the handshake and the record of responses only. -/
theorem reservedOpcodeAnsweredWithoutEffect : Obligations.ReservedOpcodeAnsweredWithoutEffect := by
  intro s w rest hready hin hdec
  rw [step_of_command hready hin, issue_of_reserved hdec]
  rfl

/-! ### The response word -/

@[simp] theorem packResponse_ok (r : Response) : (packResponse r).getLsbD 33 = r.ok := by
  rw [packResponse, BitVec.getLsbD_append, BitVec.getLsbD_append]
  simp

@[simp] theorem packResponse_done (r : Response) : (packResponse r).getLsbD 32 = r.done := by
  rw [packResponse, BitVec.getLsbD_append, BitVec.getLsbD_append]
  simp

@[simp] theorem packResponse_data (r : Response) : (packResponse r).extractLsb' 0 32 = r.data :=
  BitVec.extractLsb'_append_eq_right

/-- Settles O16: the word at the port is the packed response. -/
theorem responseWordLayout : Obligations.ResponseWordLayout := fun s ok done data =>
  ⟨packResponse ⟨ok, done, data⟩, rspO_respond s ok done data, packResponse_ok _, packResponse_done _,
    packResponse_data _⟩

end Sys2Proof.Machine

/-! PROOFS. The arithmetic family (40_arithmetic.md): what subtraction, addition, division and the filter's product
read as on integers. -/

namespace Sys2Proof.Machine

/-! ### Subtraction and addition -/

/-- A sum that fits 32 bits is exact (R64). -/
theorem add32_toInt_fits {a b : Word} (lo : -2 ^ 31 ≤ a.toInt + b.toInt) (hi : a.toInt + b.toInt ≤ 2 ^ 31 - 1) :
    (add32 a b).toInt = a.toInt + b.toInt := toInt_ofInt_fits lo hi

/-- A sum that does not fit wraps by exactly 2^32 (R64). -/
theorem add32_toInt_below {a b : Word} (h : a.toInt + b.toInt < -2 ^ 31) :
    (add32 a b).toInt = a.toInt + b.toInt + 2 ^ 32 := by
  have := word_toInt_bounds a
  have := word_toInt_bounds b
  rw [add32, BitVec.toInt_ofInt, Int.bmod_def]
  omega

theorem add32_toInt_above {a b : Word} (h : 2 ^ 31 - 1 < a.toInt + b.toInt) :
    (add32 a b).toInt = a.toInt + b.toInt - 2 ^ 32 := by
  have := word_toInt_bounds a
  have := word_toInt_bounds b
  rw [add32, BitVec.toInt_ofInt, Int.bmod_def]
  omega

/-- Settles O45: both are the operations of bit vectors, and on integers they narrow a result that fits or is
one wrap away from the range. -/
theorem subtractionAndAdditionWrap : Obligations.SubtractionAndAdditionWrap := by
  intro a b
  refine ⟨?_, ?_, sub32_toInt_fits, sub32_toInt_below, sub32_toInt_above, add32_toInt_fits, add32_toInt_below,
    add32_toInt_above⟩
  · rw [sub32_eq, BitVec.toNat_sub, Nat.add_comm]
  · rw [add32_eq, BitVec.toNat_add]

/-! ### Division -/

/-- The division by a nonzero divisor is the signed division of bit vectors (R66). -/
theorem sdiv32_eq_sdiv (a : Word) {b : Word} (hb : b ≠ 0) : sdiv32 a b = a.sdiv b := by
  apply BitVec.eq_of_toInt_eq
  rw [sdiv32_of_ne_zero a hb, BitVec.toInt_ofInt, BitVec.toInt_sdiv]

/-- The one quotient that does not fit is that of -2^31 by -1 (R66). -/
theorem sdiv32_toInt {a b : Word} (hb : b ≠ 0) (hfits : ¬(a.toInt = -2 ^ 31 ∧ b.toInt = -1)) :
    (sdiv32 a b).toInt = a.toInt.tdiv b.toInt := by
  rw [sdiv32_eq_sdiv a hb, BitVec.toInt_sdiv_of_ne_or_ne]
  by_contra! hover
  obtain ⟨rfl, rfl⟩ := hover
  exact hfits (by decide)

/-- A truncated quotient is negative exactly when the signs differ and it is not 0. -/
theorem tdiv_neg_iff (z n : Int) :
    z.tdiv n < 0 ↔ (z < 0 ∧ 0 < n ∨ 0 < z ∧ n < 0) ∧ z.tdiv n ≠ 0 := by
  constructor
  · intro hneg
    refine ⟨?_, hneg.ne⟩
    by_contra hsame
    obtain ⟨hz, hn⟩ | ⟨hz, hn⟩ : (0 ≤ z ∧ 0 ≤ n) ∨ (z ≤ 0 ∧ n ≤ 0) := by omega
    · exact hneg.not_ge (Int.tdiv_nonneg hz hn)
    · exact hneg.not_ge (Int.tdiv_nonneg_of_nonpos_of_nonpos hz hn)
  · rintro ⟨⟨hz, hn⟩ | ⟨hz, hn⟩, hne⟩
    · have hpos : 0 ≤ (-z).tdiv n := Int.tdiv_nonneg (by omega) hn.le
      rw [Int.neg_tdiv] at hpos
      omega
    · exact lt_of_le_of_ne (Int.tdiv_nonpos_of_nonneg_of_nonpos hz.le hn.le) hne

/-- Settles O46: but for the overflow, which wraps, the quotient is the integers' truncated one. -/
theorem divisionTruncatesTowardZero : Obligations.DivisionTruncatesTowardZero := by
  intro a b hb
  constructor
  · intro hfits
    rw [sdiv32_toInt hb hfits]
    exact ⟨Int.natAbs_tdiv _ _, tdiv_neg_iff _ _⟩
  · rintro ⟨ha, hminus⟩
    rw [sdiv32_of_ne_zero a hb, ha, hminus]
    decide

/-! ### Division by 256 -/

/-- Truncation toward zero is the floor after adding 255 to a negative dividend (R67). -/
theorem tdiv_256_eq_biased_floor (z : Int) : z.tdiv 256 = (z + if z < 0 then 255 else 0) / 256 := by
  have hcases := tdiv_cases z 256
  split <;> omega

/-- In 33 bits the bias does not overflow (R67). -/
theorem biased_toInt (x : Word) :
    (x.signExtend 33 + (if x.msb then 255#33 else 0#33)).toInt = x.toInt + if x.toInt < 0 then 255 else 0 := by
  have hbounds := word_toInt_bounds x
  have hbias : (if x.msb then 255#33 else 0#33).toInt = if x.toInt < 0 then 255 else 0 := by
    simp only [BitVec.msb_eq_toInt, decide_eq_true_eq]
    split <;> rfl
  rw [BitVec.toInt_add, BitVec.toInt_signExtend_of_le (by decide), hbias]
  apply Int.bmod_eq_of_le <;> split <;> omega

/-- The quotient by 256 is the biased shift (R67). -/
theorem sdiv32_256_eq_biased_shift (x : Word) :
    sdiv32 x 256 = ((x.signExtend 33 + (if x.msb then 255#33 else 0#33)).sshiftRight 8).setWidth 32 := by
  apply BitVec.eq_of_toInt_eq
  rw [← BitVec.signExtend_eq_setWidth_of_le _ (by decide), BitVec.toInt_signExtend_eq_toInt_bmod_of_le _ (by decide),
    BitVec.toInt_sshiftRight, biased_toInt, Int.shiftRight_eq_div_pow, sdiv32_256, BitVec.toInt_ofInt,
    tdiv_256_eq_biased_floor]
  rfl

/-- The low byte of a word is the remainder of its integer by 256. -/
theorem low_byte_toNat (x : Word) : ((x.extractLsb' 0 8).toNat : Int) = x.toInt % 256 := by
  rw [BitVec.extractLsb'_toNat, BitVec.toInt_eq_toNat_cond]
  split <;> omega

/-- Settles O47: the biased shift and the plain one are floors, and where the remainder is not 0 the bias carries. -/
theorem divideBy256IsBiasedShift : Obligations.DivideBy256IsBiasedShift := by
  refine fun x => ⟨sdiv32_256_eq_biased_shift x, fun hmsb hlow => ?_⟩
  have hneg : x.toInt < 0 := by rwa [BitVec.msb_eq_toInt, decide_eq_true_eq] at hmsb
  have hrem : x.toInt % 256 ≠ 0 := by
    rw [← low_byte_toNat]
    exact fun h => hlow (BitVec.eq_of_toNat_eq (Int.ofNat_inj.mp h))
  rw [sdiv32_256_toInt, tdiv_256_eq_biased_floor, if_pos hneg, BitVec.toInt_sshiftRight, Int.shiftRight_eq_div_pow]
  omega

/-! ### The product of the filter's step -/

/-- A quotient by 256 times a factor is the exact product (R65). -/
theorem mul32_sdiv32_256_toInt (x : Word) (f : Byte) :
    (mul32 (sdiv32 x 256) f).toInt = x.toInt.tdiv 256 * (f.toNat : Int) := by
  obtain ⟨qlo, qhi⟩ := tdiv_256_bounds x
  obtain ⟨lo, hi⟩ := factor_product_bounds qlo qhi f
  rw [mul32, sdiv32_256_toInt, toInt_ofInt_fits] <;> omega

/-- Settles O48: the product is exact because its bounds lie within 32 signed bits. -/
theorem quotientTimesFactorFits : Obligations.QuotientTimesFactorFits := by
  intro x f
  obtain ⟨lo, hi⟩ := tdiv_256_bounds x
  rw [mul32_sdiv32_256_toInt, sdiv32_256_toInt]
  exact ⟨rfl, factor_product_bounds lo hi f⟩

end Sys2Proof.Machine

/-! PROOFS. The POLL family (41_poll.md): the power and busy checks, the three ends of a transfer, and the transfer edge by
edge. -/

namespace Sys2Proof.Machine

/-! ### The checks before a transfer -/

/-- POLL is the transaction of R72. -/
theorem exec_poll (s : State) : exec .poll s = .next (pollWith transfer s) := rfl

/-- Settles O23: the power check comes before every sample. -/
theorem pollPoweredDown : Obligations.PollPoweredDown := by
  intro s hsck
  rw [exec_poll, pollWith_poweredDown _ hsck]
  rfl

/-- The data sample, with its level known (R17). -/
theorem doutTake_of_doutAt {s : State} {l : Level} (h : doutAt s 0 = l) :
    doutTake s =
      { s with
        doutScript := s.doutScript.tail
        doutCount := s.doutCount + 1
        trace := s.trace ++ [.dout l] } := by
  rw [← h]
  rfl

/-- Settles O24: the three ways of the busy check, each after the data sample. -/
theorem pollBusyCheck : Obligations.PollBusyCheck := by
  refine fun s hsck => ⟨fun hdout helapsed => ?_, fun hdout helapsed => ?_, fun hdout => ?_⟩
  · rw [exec_poll, pollWith_timedOut _ hsck hdout helapsed, doutTake_of_doutAt hdout]
    rfl
  · rw [exec_poll, pollWith_busy _ hsck hdout helapsed, doutTake_of_doutAt hdout]
    rfl
  · rw [exec_poll, pollWith_ready _ hsck hdout, doutTake_of_doutAt hdout]

/-! ### The three ends of a transfer -/

/-- The pulses of a transfer leave `smoothedSample` to the filter (R80, R81). -/
theorem pollTransferred_smoothedSample (s : State) : (pollTransferred s).smoothedSample = s.smoothedSample := by
  rw [pollTransferred_eq]

theorem pollTransferred_smoothingFactor (s : State) : (pollTransferred s).smoothingFactor = s.smoothingFactor := by
  rw [pollTransferred_eq]

/-- No response is given before the end of a transfer (R10). -/
theorem pollTransferred_responses (s : State) : (pollTransferred s).responses = s.responses := by
  rw [pollTransferred_eq]

/-- R80, first case, of the whole POLL. -/
theorem poll_counts {s : State} (hsck : s.sck = .low) (hdout : doutAt s 0 = .low)
    (hwarm : pendingAfterRecovery s + 1 < s.requiredReadCount.toNat) :
    pollWith transfer s = respond true false 0 (countTransfer (pollTransferred s)) := by
  rw [poll_ready hsck hdout, settle_counts]
  rwa [pollTransferred_pending, pollTransferred_required]

/-- R80, second case, of the whole POLL. -/
theorem poll_seeds {s : State} (hsck : s.sck = .low) (hdout : doutAt s 0 = .low)
    (hwarm : pendingAfterRecovery s + 1 = s.requiredReadCount.toNat) :
    pollWith transfer s = respond true true 0 (setStatus .valid (seed (countTransfer (pollTransferred s)))) := by
  rw [poll_ready hsck hdout, settle_seeds]
  rwa [pollTransferred_pending, pollTransferred_required]

/-- R80, third case, of the whole POLL. -/
theorem poll_blends {s : State} (hsck : s.sck = .low) (hdout : doutAt s 0 = .low)
    (hwarm : s.requiredReadCount.toNat ≤ pendingAfterRecovery s) :
    pollWith transfer s = respond true true 0 (setStatus .valid (blend (pollTransferred s))) := by
  rw [poll_ready hsck hdout, settle_blends]
  rwa [pollTransferred_pending, pollTransferred_required]

/-- A transfer below the required count adds 1 to the count after recovery, without wrapping (R32, R80). -/
theorem countTransfer_pollTransferred_toNat {s : State} (h : pendingAfterRecovery s < s.requiredReadCount.toNat) :
    (countTransfer (pollTransferred s)).pendingReadCount.toNat = pendingAfterRecovery s + 1 := by
  rw [countTransfer_toNat, pollTransferred_pending]
  rwa [pollTransferred_pending, pollTransferred_required]

/-- Settles O27: below the required count the end of a transfer only counts it. -/
theorem warmUpTransferIsOnlyCounted : Obligations.WarmUpTransferIsOnlyCounted := by
  intro s hsck hdout hwarm
  have hcount := countTransfer_pollTransferred_toNat (s := s) (by omega)
  refine ⟨pollWith transfer s, exec_poll s, ?_⟩
  rw [poll_counts hsck hdout hwarm]
  refine ⟨hcount, pollTransferred_smoothedSample s, pollTransferred_status s, ?_⟩
  rw [← pollTransferred_responses s]
  rfl

/-- Settles O28: the count that reaches the required one seeds the filter with the sample just committed. -/
theorem lastWarmUpTransferSeeds : Obligations.LastWarmUpTransferSeeds := by
  intro s hsck hdout hwarm
  have hcount := countTransfer_pollTransferred_toNat (s := s) (by omega)
  refine ⟨pollWith transfer s, exec_poll s, ?_⟩
  rw [poll_seeds hsck hdout hwarm]
  refine ⟨BitVec.eq_of_toNat_eq (hcount.trans hwarm), rfl, rfl, ?_⟩
  rw [← pollTransferred_responses s]
  rfl

/-- The filter, with its subtraction and addition as those of bit vectors and its step on integers (R97). -/
theorem smooth_eq_add_ofInt (acc raw : Word) (factor : Byte) :
    smooth acc raw factor = acc + BitVec.ofInt 32 ((raw - acc).toInt.tdiv 256 * (factor.toNat : Int)) := by
  rw [smooth, add32_eq, ← sub32_eq, ← smoothStep_toInt, BitVec.ofInt_toInt]

/-- Settles O29: from the required count on the end of a transfer is one step of the filter. -/
theorem transferAfterWarmUpBlends : Obligations.TransferAfterWarmUpBlends := by
  intro s hsck hdout hwarm
  refine ⟨pollWith transfer s, exec_poll s, ?_⟩
  rw [poll_blends hsck hdout hwarm, ← pollTransferred_pending, ← pollTransferred_smoothedSample s,
    ← pollTransferred_smoothingFactor s, ← pollTransferred_responses s]
  exact ⟨rfl, smooth_eq_add_ofInt _ _ _, rfl, rfl⟩

/-! ### The transfer edge by edge -/

theorem recoverFromTimeout_phase (s : State) : (recoverFromTimeout s).phase = s.phase := by
  rw [recoverFromTimeout_eq]

/-- POLL depends on what is done once a transfer starts only in the state the checks and recovery leave (R72). -/
theorem pollWith_congr {f g : State → State} {s : State}
    (h : f (recoverFromTimeout (doutTake s)) = g (recoverFromTimeout (doutTake s))) : pollWith f s = pollWith g s := by
  rw [pollWith, pollWith, h]

/-- Settles O31: the two POLLs share the checks, and their transfers agree from IDLE, which the checks keep. -/
theorem pulseLevelPollAgrees : Obligations.PulseLevelPollAgrees := by
  intro s hidle
  have hstart : (recoverFromTimeout (doutTake s)).phase = .idle := by
    rw [recoverFromTimeout_phase, doutTake_phase, hidle]
  rw [exec_poll, pollByEdges, pollWith_congr (transferByEdges_eq hstart)]

/-- Between two pulses the next edge rises: after an odd number of edges, the rising edge of a pulse has come on top of the
pulses completed (R86). -/
theorem seq_rising {s : State} (hp : s.phase ≠ .high) (h0 : s.pcnt = 0) {m : Nat} (hm : m < pulseTotal s) :
    times (2 * m + 1) seqStep s = risingEdge (setPhase (if m = 0 then s.phase else .low) (pulsesDone m s)) := by
  have hlt := pulseTotal_lt s
  have hnothigh : (if m = 0 then s.phase else Phase.low) ≠ .high := by
    split
    · exact hp
    · decide
  rw [times_succ_last, seq_pulses hp h0 m hm.le, seqStep_rises hnothigh]
  rwa [setPhase_pcnt, pulsesDone_pcnt h0 (by omega), pulseTotal, setPhase_xtra, pulsesDone_xtra]

/-- The clock line between two pulses is low; before the first it is as it was (R76, R87). -/
theorem pulsesDone_sck_low {s : State} {m : Nat} (h : 1 ≤ m ∨ s.sck = .low) : (pulsesDone m s).sck = .low := by
  rcases Nat.eq_zero_or_pos m with rfl | hpos
  · exact h.resolve_left (by decide)
  · exact pulsesDone_sck s (by omega)

/-- Settles O32: an even number of edges is that many whole pulses, an odd number one rising edge more; neither answers. -/
theorem noCommandDuringTransfer : Obligations.NoCommandDuringTransfer := by
  intro s k hidle hk
  have htotal : pulseTotal (transferStart s) = 24 + s.gainMode.toNat := rfl
  have hlt := pulseTotal_lt (transferStart s)
  have hp : (transferStart s).phase ≠ .high := by simp [hidle]
  have h0 : (transferStart s).pcnt = 0 := rfl
  have hexec : ∀ m, (pulsesDone m (transferStart s)).handshake = .executing := pulsesDone_handshake (transferStart s)
  obtain ⟨m, rfl | rfl⟩ := Nat.even_or_odd' k
  · rw [seq_pulses hp h0 m (by omega)]
    refine ⟨cmdReadyO_of_executing (hexec m), rspValidO_of_executing (hexec m), ?_, fun hlow => ?_,
      pulsesDone_responses (transferStart s) m⟩
    · rw [setPhase_pcnt, pulsesDone_pcnt h0 (by omega)]
      omega
    · have hsck : (pulsesDone m (transferStart s)).sck = .low :=
        pulsesDone_sck_low (hlow.imp_left fun h => by omega)
      simp [hsck]
  · rw [seq_rising hp h0 (by omega)]
    refine ⟨cmdReadyO_of_executing (hexec m), rspValidO_of_executing (hexec m), ?_, fun _ => ?_,
      pulsesDone_responses (transferStart s) m⟩
    · rw [risingEdge_pcnt, setPhase_pcnt, pulsesDone_pcnt h0 (by omega)]
      omega
    · rw [risingEdge_sck]
      simp

end Sys2Proof.Machine

/-! PROOFS. The configuration family (42_config.md): the commands that answer a register, the settings, and power down
and up. -/

namespace Sys2Proof.Machine

/-! ### The command words -/

/-- A command without operand is decoded from its opcode, whatever the operand field holds (R57, R58). -/
theorem decode_opcode_of_unused {i : Instr} (hunused : usesOperand i = false) (arg : Word) :
    decode (opcode i ++ arg) = some i := by
  rw [decode_append]
  exact decodeFields_opcode fun huses => absurd (hunused.symm.trans huses) (by decide)

/-! ### The commands that answer a register -/

/-- GETSTATUS answers the code of `status` (R90). -/
theorem exec_getStatus (s : State) :
    exec .getStatus s = .next (respond true true (zext32 (statusCode s.status)) s) := rfl

/-- The words GETSTATUS answers, one for each status (R28, R47). -/
theorem statusWord_of_mem {st : Status} {code : Word}
    (h : (st, code) ∈ [(Status.initializing, 0#32), (.valid, 1#32), (.poweredDown, 2#32), (.timedOut, 3#32)]) :
    zext32 (statusCode st) = code := by
  simp only [List.mem_cons, List.not_mem_nil, or_false, Prod.mk.injEq] at h
  rcases h with ⟨rfl, rfl⟩ | ⟨rfl, rfl⟩ | ⟨rfl, rfl⟩ | ⟨rfl, rfl⟩ <;> rfl

/-- Settles O34: each of the six is a response with its register, and only the status codes need a table. -/
theorem gettersAnswerTheirRegister : Obligations.GettersAnswerTheirRegister := by
  intro s arg
  refine ⟨⟨decode_opcode_of_unused (i := .getStatus) rfl arg, fun code hcode => ?_⟩,
    ⟨decode_opcode_of_unused (i := .getGain) rfl arg, rfl⟩, ⟨decode_opcode_of_unused (i := .getReq) rfl arg, rfl⟩,
    ⟨decode_opcode_of_unused (i := .getSmf) rfl arg, rfl⟩, ⟨decode_opcode_of_unused (i := .getTare) rfl arg, rfl⟩,
    ⟨decode_opcode_of_unused (i := .getScale) rfl arg, rfl⟩⟩
  rw [exec_getStatus, statusWord_of_mem hcode]
  rfl

/-! ### The settings -/

/-- A gain name assembles to a legal operand (R27, R61). -/
theorem gainOperand_bounds (g : GainName) : 1 ≤ g.operand.toNat ∧ g.operand.toNat ≤ 5 := by
  cases g <;> decide

/-- The gain code in the operand of a gain name is the code of that name (R27, R57). -/
theorem gainCode_operand (g : GainName) : gainCode g.operand = g.code := by
  cases g <;> rfl

/-- The legal operands are those of the five gain names (R27, R91). -/
theorem exists_gainName_of_legal {arg : Word} (lo : 1 ≤ arg.toNat) (hi : arg.toNat ≤ 5) :
    ∃ g : GainName, arg = g.operand := by
  have hlegal : (Instr.setGain arg).wellFormed = true := by
    rw [← gainLegal_eq_wellFormed, gainLegal]
    simp [lo, hi]
  obtain ⟨g, _, hg⟩ := List.any_eq_true.mp hlegal
  exact ⟨g, (beq_iff_eq.mp hg).symm⟩

theorem exec_setGain (arg : Word) (s : State) : exec (.setGain arg) s = execSetGain arg s := rfl

/-- Settles O35: the operand of a gain name is within the bounds of SETGAIN's legal way, the other operands outside. -/
theorem setGainStoresOrRefuses : Obligations.SetGainStoresOrRefuses := by
  refine ⟨fun s g => ?_, fun arg => exists_gainName_of_legal, fun s arg hillegal => ?_⟩
  · have hbounds := gainOperand_bounds g
    rcases execSetGain_cases g.operand s with ⟨_, _, hstored⟩ | ⟨hillegal, _⟩
    · rw [exec_setGain, hstored, gainCode_operand]
      rfl
    · omega
  · rcases execSetGain_cases arg s with ⟨lo, hi, _⟩ | ⟨_, hrefused⟩
    · omega
    · rw [exec_setGain, hrefused]
      rfl

/-- `arg[7:0]` is the operand modulo 256 (R57). -/
theorem lowByte_eq_ofNat_mod (arg : Word) : lowByte arg = BitVec.ofNat 8 (arg.toNat % 256) := by
  apply BitVec.eq_of_toNat_eq
  simp [lowByte]

/-- Settles O38: the low byte that is stored is the operand modulo 256. -/
theorem byteSettersStoreLowByte : Obligations.ByteSettersStoreLowByte := by
  intro s arg
  rw [← lowByte_eq_ofNat_mod, decode_append, decode_append]
  exact ⟨⟨rfl, rfl⟩, ⟨rfl, rfl⟩⟩

/-! ### Power down and power up -/

/-- Settles O36: PWRDN is one write to the clock line and its response. -/
theorem powerDownDrivesClockHigh : Obligations.PowerDownDrivesClockHigh := fun _ arg =>
  ⟨decode_opcode_of_unused (i := .pwrDn) rfl arg, rfl⟩

/-- PWRUP drives the clock line low, restarts warm-up, stamps the clock and answers, in that order (R94). -/
theorem exec_pwrUp (s : State) :
    exec .pwrUp s =
      .next (respond true true 0 (stampTime (clearPending (setStatus .initializing (sckWrite .low s))))) := rfl

/-- Settles O37: the four writes of PWRUP, of which only the stamp reads a sample. -/
theorem powerUpRestartsWarmUp : Obligations.PowerUpRestartsWarmUp := fun s arg =>
  ⟨decode_opcode_of_unused (i := .pwrUp) rfl arg, exec_pwrUp s⟩

/-- What a POLL right after PWRUP finds: the line low, Initializing, the stamp, and the samples after PWRUP's own of the
clock (R94). -/
theorem pwrUp_leaves {s t : State} (hexec : exec .pwrUp s = .next t) :
    t.sck = .low ∧ t.status = .initializing ∧ t.cycleStartTime = clockAt s 0 ∧ (∀ k, doutAt t k = doutAt s k) ∧
      ∀ k, clockAt t k = clockAt s (k + 1) := by
  cases (exec_pwrUp s).symm.trans hexec
  simp

/-- Settles O33: the elapsed time POLL sees after PWRUP runs from PWRUP's own clock sample, so the busy check stays inside
its window. -/
theorem powerUpRestartsTimeoutWindow : Obligations.PowerUpRestartsTimeoutWindow := by
  intro s t hexec hdout hwindow
  obtain ⟨hsck, hstatus, hstamp, hdouts, hclocks⟩ := pwrUp_leaves hexec
  have hbusy : doutAt t 0 = .high := (hdouts 0).trans hdout
  have helapsed : elapsedSince t 0 ≤ 500 := by rwa [elapsedSince, hclocks, hstamp]
  refine ⟨pollWith transfer t, exec_poll t, ?_⟩
  rw [pollWith_busy _ hsck hbusy helapsed]
  exact ⟨hstatus, hstamp, rfl⟩

end Sys2Proof.Machine

/-! PROOFS. The filter family (43_filter.md): where the filter rests, where it moves and how far, and the commands that
read the samples as counts. -/

namespace Sys2Proof.Machine

/-! ### The dead band -/

/-- Within less than one count of the input the quotient of the step is 0 (R100). -/
theorem smoothStep_toInt_of_near {s r : Word} (f : Byte) (hnear : (r.toInt - s.toInt).natAbs < 256) :
    (smoothStep s r f).toInt = 0 := by
  have hquot : (r.toInt - s.toInt).tdiv 256 = 0 := by
    rcases tdiv_cases (r.toInt - s.toInt) 256 with ⟨hsign, hfloor⟩ | ⟨hsign, hfloor⟩ <;> omega
  rw [smoothStep_toInt, sub32_toInt_fits (by omega) (by omega), hquot, Int.zero_mul]

/-- Settles O51: in the dead band the step is 0. -/
theorem smoothDeadBand : Obligations.SmoothDeadBand := fun _ _ f hnear =>
  smooth_of_step_zero (smoothStep_toInt_of_near f hnear)

/-- Settles O49: a distance of 0 is in the dead band. -/
theorem smoothFixedPoint : Obligations.SmoothFixedPoint := fun r f =>
  smoothDeadBand r r f (by simp)

/-! ### The movement of the filter -/

/-- Factor 0 makes every step 0, the wrapped ones included (R99). -/
theorem smooth_factor_zero (s r : Word) : smooth s r 0 = s := by
  apply smooth_of_step_zero
  rw [smoothStep_toInt]
  exact Int.mul_zero _

/-- What 255 times the quotient by 256 leaves of a distance is that quotient and the remainder, which have one sign (R99). -/
theorem full_factor_leaves (d : Int) :
    d.natAbs / 256 ≤ (d - d.tdiv 256 * 255).natAbs ∧ (d - d.tdiv 256 * 255).natAbs ≤ d.natAbs / 256 + 255 := by
  rcases tdiv_cases d 256 with ⟨hsign, hquot⟩ | ⟨hsign, hquot⟩ <;> rw [hquot] <;> omega

/-- Settles O50: factor 0 steps by 0; factor 255 leaves of the distance what its exact step does not cover. -/
theorem smoothFrozenAndFullFactor : Obligations.SmoothFrozenAndFullFactor := by
  refine fun s r => ⟨smooth_factor_zero s r, fun lo hi => ?_⟩
  have hleft : r.toInt - (smooth s r 255).toInt = r.toInt - s.toInt - (r.toInt - s.toInt).tdiv 256 * 255 := by
    rw [smooth_toInt_fits 255 lo hi, Int.sub_sub]
    rfl
  rw [hleft]
  exact full_factor_leaves _

/-- Settles O52: where the difference fits, the exact step has its sign and is no longer than it. -/
theorem smoothNeverOvershoots : Obligations.SmoothNeverOvershoots := by
  intro s r f
  obtain ⟨hup, hdown⟩ := step_between (r.toInt - s.toInt) f
  constructor
  · intro hle hi
    have hstep := hup (by omega)
    rw [smooth_toInt_fits f (by omega) hi]
    omega
  · intro hle lo
    have hstep := hdown (by omega)
    rw [smooth_toInt_fits f lo (by omega)]
    omega

/-- Settles O53: the step has the sign of the wrapped difference, which is opposite to the true one. -/
theorem smoothWrapsAwayFromInput : Obligations.SmoothWrapsAwayFromInput := by
  intro s r f
  have hs := word_toInt_bounds s
  have hr := word_toInt_bounds r
  obtain ⟨hup, hdown⟩ := step_between (sub32 r s).toInt f
  rw [smoothStep_toInt]
  constructor
  · intro habove
    have hwrapped := sub32_toInt_above habove
    exact (hdown (by omega)).2
  · intro hbelow
    have hwrapped := sub32_toInt_below hbelow
    exact (hup (by omega)).1

/-! ### The readings as counts -/

/-- A count is the stored value divided by 256, toward zero (R66, R105). -/
theorem toCount_eq (v : Word) : toCount v = BitVec.ofInt 32 (v.toInt.tdiv 256) := sdiv32_256 v

/-- GETRAW answers the count of the raw sample (R105). -/
theorem exec_getRaw (s : State) : exec .getRaw s = .next (respond true true (toCount s.rawSample) s) := rfl

/-- GETSMOOTHED answers the count of the smoothed sample (R106). -/
theorem exec_getSmoothed (s : State) :
    exec .getSmoothed s = .next (respond true true (toCount s.smoothedSample) s) := rfl

/-- A word whose low byte is 0 is the widening of its high 24 bits (R44). -/
theorem widenCount_of_low_byte_zero {x : Word} (hlow : x.extractLsb' 0 8 = 0) :
    widenCount (x.extractLsb' 8 24) = x := by
  rw [widenCount, ← hlow]
  exact BitVec.extractLsb'_append_extractLsb' (w := 24)

/-- Settles O39: both answers are counts, and the count of a widened 24-bit number is that number. -/
theorem readingsAreCounts : Obligations.ReadingsAreCounts := by
  intro s arg
  rw [← toCount_eq, ← toCount_eq]
  refine ⟨decode_opcode_of_unused (i := .getRaw) rfl arg, decode_opcode_of_unused (i := .getSmoothed) rfl arg,
    exec_getRaw s, exec_getSmoothed s, fun hlow => ?_⟩
  rw [← toCount_widenCount, widenCount_of_low_byte_zero hlow]

end Sys2Proof.Machine

/-! PROOFS. The calibration family (44_calibration.md): the tare and the scale as they are stored, and the readings
adjusted by them. -/

namespace Sys2Proof.Machine

/-! ### The tare -/

/-- TARE.R stores the raw sample as the tare (R107). -/
theorem exec_tareR (s : State) : exec .tareR s = .next (storeTare s.rawSample s) := rfl

/-- TARE.S stores the smoothed sample as the tare (R108). -/
theorem exec_tareS (s : State) : exec .tareS s = .next (storeTare s.smoothedSample s) := rfl

/-- SETTARE stores its operand as the tare (R109). -/
theorem exec_setTare (arg : Word) (s : State) : exec (.setTare arg) s = .next (storeTare arg s) := rfl

/-- Settles O40: the three commands store the tare alike, and SETTARE's word is its own encoding. -/
theorem tareCommandsStoreOffset : Obligations.TareCommandsStoreOffset := fun s arg =>
  ⟨⟨decode_opcode_of_unused (i := .tareR) rfl arg, exec_tareR s⟩,
    ⟨decode_opcode_of_unused (i := .tareS) rfl arg, exec_tareS s⟩,
    ⟨decode_encode (.setTare arg), exec_setTare arg s⟩⟩

/-! ### The tare-adjusted readings -/

/-- The tare-adjusted sample, with its subtraction as that of bit vectors (R63). -/
theorem tareAdjusted_eq (sel : Selector) (s : State) : tareAdjusted sel s = sample sel s - s.tareOffset :=
  sub32_eq _ _

/-- GETMT.R answers the count of the tare-adjusted raw sample (R111). -/
theorem exec_getMtR (s : State) :
    exec .getMtR s = .next (respond true true (toCount (tareAdjusted .raw s)) s) := rfl

/-- GETMT.S answers the count of the tare-adjusted smoothed sample (R112). -/
theorem exec_getMtS (s : State) :
    exec .getMtS s = .next (respond true true (toCount (tareAdjusted .smoothed s)) s) := rfl

/-- The count of the tare-adjusted sample, on integers (R66, R111, R112). -/
theorem toCount_tareAdjusted (sel : Selector) (s : State) :
    toCount (tareAdjusted sel s) = BitVec.ofInt 32 ((sample sel s - s.tareOffset).toInt.tdiv 256) := by
  rw [toCount_eq, tareAdjusted_eq]

/-- The count of a difference that fits 32 bits is its exact quotient: neither narrowing loses anything (R63, R66). -/
theorem count_of_difference_fits {x y : Word} (lo : -2 ^ 31 ≤ x.toInt - y.toInt) (hi : x.toInt - y.toInt ≤ 2 ^ 31 - 1) :
    (BitVec.ofInt 32 ((x - y).toInt.tdiv 256)).toInt = (x.toInt - y.toInt).tdiv 256 := by
  rw [← sdiv32_256, sdiv32_256_toInt, ← sub32_eq, sub32_toInt_fits lo hi]

/-- Settles O41: both answers are counts of the tare-adjusted sample. -/
theorem tareAdjustedReadings : Obligations.TareAdjustedReadings := by
  intro s arg
  refine ⟨decode_opcode_of_unused (i := .getMtR) rfl arg, decode_opcode_of_unused (i := .getMtS) rfl arg, ?_, ?_,
    fun _ => count_of_difference_fits⟩
  · rw [exec_getMtR, toCount_tareAdjusted]
    rfl
  · rw [exec_getMtS, toCount_tareAdjusted]
    rfl

/-! ### The scale -/

/-- SETSCALE stores its operand as the scale (R115). -/
theorem exec_setScale (arg : Word) (s : State) : exec (.setScale arg) s = .next (storeScale arg s) := rfl

/-- The scale stored for 0 is 1 (R26). -/
theorem storeScale_zero (s : State) : storeScale 0 s = respond true true 0 { s with scaleFactor := 1 } := rfl

/-- Any other scale is stored as it is (R26). -/
theorem storeScale_of_ne_zero {v : Word} (hv : v ≠ 0) (s : State) :
    storeScale v s = respond true true 0 { s with scaleFactor := v } := by
  rw [storeScale, zeroToOne, if_neg hv]
  rfl

/-- Settles O43: the guard on the stored scale is the whole difference between the two cases. -/
theorem setScaleCoercesZero : Obligations.SetScaleCoercesZero := by
  refine fun s arg => ⟨decode_encode (.setScale arg), fun hzero => ?_, fun hne => ?_⟩
  · rw [exec_setScale, hzero, storeScale_zero]
    rfl
  · rw [exec_setScale, storeScale_of_ne_zero hne]
    rfl

/-- ADJ.R stores the guarded quotient of the raw sample as the scale (R113). -/
theorem exec_adjR (value : Word) (s : State) :
    exec (.adjR value) s = .next (storeScale (adjustQuotient .raw value s) s) := rfl

/-- ADJ.S stores the guarded quotient of the smoothed sample as the scale (R114). -/
theorem exec_adjS (value : Word) (s : State) :
    exec (.adjS value) s = .next (storeScale (adjustQuotient .smoothed value s) s) := rfl

/-- What ADJ stores, on integers: the quotient by the guarded operand, guarded again (R113, R114; C2). -/
theorem zeroToOne_adjustQuotient (sel : Selector) (value : Word) (s : State) :
    let d := (sample sel s - s.tareOffset).toInt.tdiv (if value = 0 then 1 else value.toInt)
    zeroToOne (adjustQuotient sel value s) = if d = 0 then 1 else BitVec.ofInt 32 d := by
  rw [adjustQuotient, guarded_quotient, tareAdjusted_eq]

/-- Settles O42: the scale stored is the quotient behind the guard, which is never 0. -/
theorem adjustComputesScale : Obligations.AdjustComputesScale := fun s value =>
  ⟨decode_encode (.adjR value), decode_encode (.adjS value),
    ⟨_, exec_adjR value s, zeroToOne_ne_zero _, zeroToOne_adjustQuotient .raw value s⟩,
    ⟨_, exec_adjS value s, zeroToOne_ne_zero _, zeroToOne_adjustQuotient .smoothed value s⟩⟩

/-! ### The scaled readings -/

/-- GETADJ.R answers the tare-adjusted raw sample divided by the scale (R117). -/
theorem exec_getAdjR (s : State) :
    exec .getAdjR s = .next (respond true true (sdiv32 (tareAdjusted .raw s) s.scaleFactor) s) := rfl

/-- GETADJ.S answers the tare-adjusted smoothed sample divided by the scale (R118). -/
theorem exec_getAdjS (s : State) :
    exec .getAdjS s = .next (respond true true (sdiv32 (tareAdjusted .smoothed s) s.scaleFactor) s) := rfl

/-- The tare-adjusted sample divided by a scale that is not 0, on integers (R66, R117, R118). -/
theorem sdiv32_tareAdjusted (sel : Selector) {s : State} (hscale : s.scaleFactor ≠ 0) :
    sdiv32 (tareAdjusted sel s) s.scaleFactor =
      BitVec.ofInt 32 ((sample sel s - s.tareOffset).toInt.tdiv s.scaleFactor.toInt) := by
  rw [sdiv32_of_ne_zero _ hscale, tareAdjusted_eq]

/-- Settles O44: each is a response, whatever the scale, and its data has a value where the scale is not 0. -/
theorem scaledReadings : Obligations.ScaledReadings := fun s arg =>
  ⟨decode_opcode_of_unused (i := .getAdjR) rfl arg, decode_opcode_of_unused (i := .getAdjS) rfl arg,
    ⟨_, exec_getAdjR s, sdiv32_tareAdjusted .raw⟩, ⟨_, exec_getAdjS s, sdiv32_tareAdjusted .smoothed⟩⟩

end Sys2Proof.Machine

/-! PROOFS. The exceptions family (60_exceptions.md): no run stops, the ways out of TimedOut, and PoweredDown until
PWRUP. -/

namespace Sys2Proof.Machine

/-! ### No run stops -/

/-- A ready block never faults and is never refused: it waits, runs a command, refuses a reserved opcode or resets (R119;
logs 2, 3 and 4). -/
theorem safeStep_of_ready {s : State} (hready : cmdReadyO s = true) : SafeStep s := by
  rcases step_ready_cases hready with
    ⟨_, e⟩ | ⟨_, rest, i, _, _, e⟩ | ⟨_, _, _, _, e⟩ | ⟨_, _, e⟩ | ⟨_, _, _, e⟩
  · exact ⟨_, e⟩
  · obtain ⟨t, _, hexec, _⟩ := exec_answeredWith i (accept rest s)
    exact ⟨t, e.trans hexec⟩
  · exact ⟨_, e⟩
  · exact ⟨_, e⟩
  · exact ⟨_, e⟩

/-- What guarantees a step that completes, and is kept by it, guarantees runs of every length. -/
theorem run_preserves {M : Host.Core} {P : M.State → Prop} (hstep : ∀ s, P s → ∃ t, M.step s = .next t ∧ P t) (n : Nat) :
    ∀ s, P s → ∃ t, M.run n s = .next t ∧ P t := by
  induction n with
  | zero => exact fun s hs => ⟨s, rfl, hs⟩
  | succ n ih =>
    intro s hs
    obtain ⟨u, hu, hPu⟩ := hstep s hs
    rw [run_succ_of_step hu]
    exact ih u hPu

/-- Settles O14: a block that meets the invariants is ready, so its step completes, and every step keeps them. -/
theorem noRunStops : Obligations.NoRunStops := by
  refine run_preserves (M := Sys2Proof.core) fun s hs => ?_
  obtain ⟨t, hstep⟩ := safeStep_of_ready hs.ready
  exact ⟨t, hstep, everyStepKeepsInvariants s t hs hstep⟩

/-! ### The ways out of TimedOut -/

/-- A transfer adds at most 1 to the warm-up count that recovery leaves (R75, R80). -/
theorem poll_pending_le {s : State} (hsck : s.sck = .low) (hdout : doutAt s 0 = .low) :
    (pollWith transfer s).pendingReadCount.toNat ≤ pendingAfterRecovery s + 1 := by
  rw [poll_ready hsck hdout, ← pollTransferred_pending]
  rcases settle_pending (pollTransferred s) with ⟨_, hcount⟩ | hkeep
  · exact hcount.le
  · rw [hkeep]
    exact Nat.le_succ _

/-- Recovery from TimedOut discards the warm-up count (R75). -/
theorem pendingAfterRecovery_of_timedOut {s : State} (h : s.status = .timedOut) : pendingAfterRecovery s = 0 :=
  if_pos h

/-- A POLL leaves TimedOut only where it finds the clock line high, or the data line low after which one transfer at most
is counted (R126). -/
theorem poll_leaves_timedOut {s : State} (hout : s.status = .timedOut)
    (hleft : (pollWith transfer s).status ≠ .timedOut) :
    s.sck = .high ∨ (doutAt s 0 = .low ∧ (pollWith transfer s).pendingReadCount.toNat ≤ 1) := by
  rcases pollWith_cases transfer s with ⟨hsck, _⟩ | ⟨_, _, _, e⟩ | ⟨_, _, _, e⟩ | ⟨hsck, hdout, _⟩
  · exact .inl hsck
  · exact absurd (by simp [e]) hleft
  · exact absurd (by simp [e, hout]) hleft
  · have hpending := poll_pending_le hsck hdout
    rw [pendingAfterRecovery_of_timedOut hout] at hpending
    exact .inr ⟨hdout, hpending⟩

/-- A SETGAIN that writes `status` has a legal operand, and restarts warm-up (R91). -/
theorem setGain_writes_status {arg : Word} {s t : State} (hexec : exec (.setGain arg) s = .next t)
    (hne : t.status ≠ s.status) : (Instr.setGain arg).wellFormed = true ∧ t.pendingReadCount = 0 := by
  rcases execSetGain_cases arg s with ⟨lo, hi, e⟩ | ⟨_, e⟩
  · cases e.symm.trans hexec
    rw [← gainLegal_eq_wellFormed]
    exact ⟨by simp [gainLegal, lo, hi], rfl⟩
  · cases e.symm.trans hexec
    exact absurd rfl hne

/-- Settles O20: only POLL, SETGAIN and PWRUP write `status`. -/
theorem waysOutOfTimedOut : Obligations.WaysOutOfTimedOut := by
  intro i s t hout hexec hleft
  rcases status_writers hexec (hout ▸ hleft) with rfl | rfl | ⟨arg, rfl⟩
  · cases (exec_poll s).symm.trans hexec
    rcases poll_leaves_timedOut hout hleft with hsck | ⟨hdout, hpending⟩
    · exact .inl ⟨rfl, hsck⟩
    · exact .inr (.inl ⟨rfl, hdout, hpending⟩)
  · cases (exec_pwrUp s).symm.trans hexec
    exact .inr (.inr (.inr ⟨rfl, rfl⟩))
  · exact .inr (.inr (.inl ⟨arg, rfl, setGain_writes_status hexec (hout ▸ hleft)⟩))

/-! ### PoweredDown until PWRUP -/

/-- While the clock line is high, only PWRUP lowers it (R127, R134). -/
theorem exec_keeps_sck_high {i : Instr} {s t : State} (hup : i ≠ .pwrUp) (hsck : s.sck = .high)
    (hexec : exec i s = .next t) : t.sck = .high := by
  cases exec_effect hexec with
  | poll =>
    obtain ⟨_, _, _, _, _, hkeep, _⟩ := poll_keeps s
    rw [hkeep, hsck]
  | pwrUp => exact absurd rfl hup
  | pwrDn => rfl
  | gainStored | gainRefused | requiredSet | factorSet | tareStored | scaleStored | answered => exact hsck

/-- A list of commands completes, and keeps what each of its commands keeps (R10, R119). -/
theorem execAll_preserves {P : State → Prop} (is : List Instr)
    (hkeep : ∀ i ∈ is, ∀ s t, P s → exec i s = .next t → P t) :
    ∀ s, P s → ∃ t, execAll is s = some t ∧ P t := by
  induction is with
  | nil => exact fun s hs => ⟨s, rfl, hs⟩
  | cons i is ih =>
    obtain ⟨hi, his⟩ := List.forall_mem_cons.mp hkeep
    intro s hs
    obtain ⟨u, _, hexec, _⟩ := exec_answeredWith i s
    rw [execAll, hexec]
    exact ih his u (hi s u hs hexec)

/-- Settles O21: no command of the list lowers the clock line, and POLL's power check reads it. -/
theorem poweredDownUntilPowerUp : Obligations.PoweredDownUntilPowerUp := by
  intro is s hsck hno
  obtain ⟨t, hrun, ht⟩ := execAll_preserves (P := fun u => u.sck = .high) is
    (fun _ hi _ _ => exec_keeps_sck_high (ne_of_mem_of_not_mem hi hno)) s hsck
  exact ⟨t, hrun, ht, pollPoweredDown t ht⟩

end Sys2Proof.Machine

/-! PROOFS. The reset family (70_reset_and_hazards.md): reset between two commands and in a POLL, what it leaves at the
ports, and the readings after it. -/

namespace Sys2Proof.Machine

/-! ### A POLL cut by reset -/

/-- The step of a ready block whose next input is a POLL to be cut by reset (R135; log 8). -/
theorem step_of_pollCutByReset {s : State} {edges : Nat} {rest : List Input} (hready : cmdReadyO s = true)
    (hin : s.inputs = .pollCutByReset edges :: rest) : step s = .next (pollCutByReset edges (accept rest s)) := by
  simp [step, hin, hready]

/-- Where the chip is ready, reset finds the transfer as its clock edges have left it, after the busy check's one sample:
no response given, and a sample more for each data pulse that has fallen (R86, R87, R135). -/
theorem pollCutByReset_ready {s : State} {edges : Nat} (hidle : s.phase = .idle) (hsck : s.sck = .low)
    (hdout : doutAt s 0 = .low) (hedges : edges ≤ 2 * (24 + s.gainMode.toNat)) :
    ∃ u, pollCutByReset edges s = blockReset u ∧ u.inputs = s.inputs ∧ u.clockScript = s.clockScript ∧
      u.clockCount = s.clockCount ∧ u.responses = s.responses ∧
      u.doutCount = s.doutCount + 1 + min 24 (edges / 2) ∧ s.trace ++ [.dout .low] <+: u.trace := by
  have hcut : pollCutByReset edges s =
      blockReset (times edges seqStep (transferStart (recoverFromTimeout (doutTake s)))) := by
    rw [pollCutByReset, pollWith_ready _ hsck hdout]
  refine ⟨_, hcut, ?_⟩
  rw [recoverFromTimeout_eq, doutTake_of_doutAt hdout]
  exact seq_edges_ports (by simp [hidle]) rfl hedges

/-- Of a state that is reset, only the ports are seen afterwards (R135; log 8). -/
theorem blockReset_of_ports {u : State} {inputs : List Input} {responses : List Response} {clockScript : List Word}
    {clockCount : Nat} (hin : u.inputs = inputs) (hresp : u.responses = responses) (hscript : u.clockScript = clockScript)
    (hclock : u.clockCount = clockCount) :
    blockReset u =
      { State.reset with
        inputs := inputs, responses := responses, doutScript := u.doutScript, clockScript := clockScript,
        doutCount := u.doutCount, clockCount := clockCount, trace := u.trace } := by
  subst hin hresp hscript hclock
  rfl

/-- Settles O10: reset sees of the cut transfer only its ports, and its edges add samples and events alone. -/
theorem resetAbandonsTransfer : Obligations.ResetAbandonsTransfer := by
  intro s rest edges hready hin hsck hdout hedges
  have hidle : s.phase = .idle := ((cmdReadyO_iff s).1 hready).2
  obtain ⟨u, hcut, hinputs, hscript, hclock, hresp, hcount, htrace⟩ :=
    pollCutByReset_ready (s := accept rest s) hidle hsck hdout hedges
  refine ⟨blockReset u, ?_, hresp, blockReset_of_ports hinputs hresp hscript hclock, hcount, htrace⟩
  rw [step_of_pollCutByReset hready hin, hcut]

/-! ### Every register at its reset value -/

/-- Settles O8: a reset at hand is taken in any state, and `blockReset` keeps of that state its ports alone. -/
theorem resetSetsEveryRegister : Obligations.ResetSetsEveryRegister := fun _ _ hin => step_of_reset hin

/-- The clock line is low after reset (R135, R136). -/
@[simp] theorem sckO_blockReset (s : State) : sckO (blockReset s) = .low := rfl

/-- Settles O11: either input ends in `blockReset`, after which no response is present, whatever state it was applied to. -/
theorem resetLeavesNoResponsePending : Obligations.ResetLeavesNoResponsePending := by
  intro s rest edges hin
  obtain ⟨u, hstep⟩ : ∃ u, step s = .next (blockReset u) := by
    rcases hin with hreset | ⟨hready, hcut⟩
    · exact ⟨_, step_of_reset hreset⟩
    · exact ⟨_, step_of_pollCutByReset hready hcut⟩
  exact ⟨_, hstep, rspValidO_blockReset u, rspO_blockReset u, cmdReadyO_blockReset u, sckO_blockReset u⟩

/-! ### The readings after reset -/

/-- With samples and tare 0, the readings less the tare are 0 (R111, R136). -/
theorem tareAdjusted_reset (sel : Selector) : tareAdjusted sel State.reset = 0 := by
  cases sel <;> decide

/-- The commands that answer 0 after reset (R136). -/
theorem exec_reset_answers_zero :
    ∀ i ∈ [Instr.getRaw, .getSmoothed, .getTare, .getMtR, .getMtS, .getAdjR, .getAdjS, .getStatus],
      exec i State.reset = .next (respond true true 0 State.reset) := by
  have hcount : toCount 0 = 0 := by decide
  have hscaled : sdiv32 0 State.reset.scaleFactor = 0 := by decide
  simp only [List.forall_mem_cons, List.not_mem_nil, false_imp_iff, implies_true, and_true]
  refine ⟨?raw, ?smoothed, rfl, ?mtR, ?mtS, ?adjR, ?adjS, rfl⟩
  case raw => rw [exec_getRaw, show State.reset.rawSample = 0 from rfl, hcount]
  case smoothed => rw [exec_getSmoothed, show State.reset.smoothedSample = 0 from rfl, hcount]
  case mtR => rw [exec_getMtR, tareAdjusted_reset, hcount]
  case mtS => rw [exec_getMtS, tareAdjusted_reset, hcount]
  case adjR => rw [exec_getAdjR, tareAdjusted_reset, hscaled]
  case adjS => rw [exec_getAdjS, tareAdjusted_reset, hscaled]

/-- The commands that answer 1 after reset: the scale and the gain code (R136). -/
theorem exec_reset_answers_one :
    ∀ i ∈ [Instr.getScale, .getGain], exec i State.reset = .next (respond true true 1 State.reset) := by
  simp only [List.forall_mem_cons, List.not_mem_nil, false_imp_iff, implies_true, and_true]
  exact ⟨rfl, rfl⟩

/-- Settles O9: the registers are those of the table, and each getter is a response computed from them. -/
theorem resetValuesAndFirstReadings : Obligations.ResetValuesAndFirstReadings :=
  ⟨⟨rfl, rfl, rfl, rfl, rfl, rfl, rfl, rfl, rfl, rfl, rfl, rfl, rfl, rfl, rfl⟩,
    exec_reset_answers_zero, exec_reset_answers_one, rfl, rfl⟩

end Sys2Proof.Machine
